-- ==== Sys2Proof/Word.lean ====
section
/-! DEFINITION. The word types of the Sangolt 416 (R6, R180): what crosses its links and its port as bits. -/

namespace Sys2Proof

/-- One byte of a lane message or a control-port frame (R154, R182). -/
abbrev Byte := BitVec 8

/-- A two-byte field, most significant byte first on the wire (R180). -/
abbrev Half := BitVec 16

/-- An air-time value: a 32-bit count of microseconds that wraps (R6). -/
abbrev AirTime := BitVec 32

/-- A 48-bit station address; bits 47 to 40 are its first octet (R82, R180). -/
abbrev Address := BitVec 48

end Sys2Proof
end

