-- ==== Sys2Proof/Machine/Check.lean ====
section
/-! DEFINITION. The check byte of every lane message and control-port frame (R155), and the order of bytes in
multi-byte fields and of bits in control-port bytes (R167, R180). -/

namespace Sys2Proof

/-- One step of the check register: shift left, and combine with 2Fh when a 1 was shifted out (R155). -/
def checkStep (r : Byte) : Byte :=
  if r.msb then (r <<< 1) ^^^ 0x2F#8 else r <<< 1

/-- One byte is combined into the register, which is then stepped eight times (R155). -/
def checkByteStep (r b : Byte) : Byte :=
  Nat.repeat checkStep 8 (r ^^^ b)

/-- The check byte over the bytes that precede it: the register starts at FFh and is complemented at the end (R155). -/
def checkByte (bytes : List Byte) : Byte :=
  ~~~ (bytes.foldl checkByteStep 0xFF#8)

/-- A message or frame with its check byte at the end. -/
def withCheck (bytes : List Byte) : List Byte :=
  bytes ++ [checkByte bytes]

/-- The bytes of one whole message or frame are as many as its body length byte says plus three (R154, R169). -/
def isWhole (bytes : List Byte) : Bool :=
  match bytes with
  | _ :: len :: rest => rest.length == len.toNat + 1
  | _ => false

/-- A message passes its check when it is whole and its last byte is the check byte of the bytes before it (R155). -/
def passesCheck (bytes : List Byte) : Bool :=
  isWhole bytes && (bytes.getLast? == some (checkByte bytes.dropLast))

/-- Two bytes as a number, most significant first (R180). -/
def half (a b : Byte) : Half := a ++ b

/-- Four bytes as a number, most significant first (R180). -/
def word (a b c d : Byte) : BitVec 32 := (a ++ b) ++ (c ++ d)

/-- Six octets in transmission order (R82, R180). -/
def address (a b c d e f : Byte) : Address := (a ++ b ++ c) ++ (d ++ e ++ f)

def halfBytes (x : Half) : List Byte :=
  [x.extractLsb' 8 8, x.extractLsb' 0 8]

def wordBytes (x : BitVec 32) : List Byte :=
  [x.extractLsb' 24 8, x.extractLsb' 16 8, x.extractLsb' 8 8, x.extractLsb' 0 8]

def addressBytes (x : Address) : List Byte :=
  [x.extractLsb' 40 8, x.extractLsb' 32 8, x.extractLsb' 24 8,
   x.extractLsb' 16 8, x.extractLsb' 8 8, x.extractLsb' 0 8]

/-- A number in one byte of a message. -/
def natByte (n : Nat) : Byte := BitVec.ofNat 8 n

/-- A number in two bytes of a message. -/
def natHalf (n : Nat) : List Byte := halfBytes (BitVec.ofNat 16 n)

/-- A yes or no mark in a response (Table 11-1). -/
def mark (b : Bool) : Byte := if b then 1 else 0

/-- The bytes of a bit stream on SDI, each sent most significant bit first; bits short of a byte are none (R167). -/
def bytesOfBits : List Bool → List Byte
  | a :: b :: c :: d :: e :: f :: g :: h :: rest =>
    BitVec.ofBoolListBE [a, b, c, d, e, f, g, h] :: bytesOfBits rest
  | _ => []

/-- The bits of one byte as they are sent, most significant first (R167). -/
def bitsOfByte (b : Byte) : List Bool :=
  [b.getLsbD 7, b.getLsbD 6, b.getLsbD 5, b.getLsbD 4, b.getLsbD 3, b.getLsbD 2, b.getLsbD 1, b.getLsbD 0]

/-- The bits of bytes in the order sent (R167). -/
def bitsOfBytes (bytes : List Byte) : List Bool := bytes.flatMap bitsOfByte

end Sys2Proof
end

