-- ==== Sys2Proof/Syntax.lean ====
section
/-! DEFINITION. The commands and events of spec/opcode_table.json as ONE inductive, with their operands.
Operands that arrive as bytes from the host processor stay raw, so that a value out of range can be written
and is refused by the command's own checks; operands that one block hands another are typed. -/

namespace Sys2Proof

/-- The three lanes, numbered 0, 1 and 2. -/
inductive Lane where
  | l0 | l1 | l2
  deriving DecidableEq, Repr

/-- The blocks of Table 0-1. -/
inductive Block where
  | ctk | ift | svi | stb | pls | gre | lli | cpa
  deriving DecidableEq, Repr

/-- The two bands (R1). -/
inductive Band where
  | l | h
  deriving DecidableEq, Repr

/-- The width of a plan span, or of what a station can receive (R4, R80). -/
inductive Width where
  | w20 | w40
  deriving DecidableEq, Repr

/-- The bands in which a station can be served (R80, Table 11-2). -/
inductive BandSet where
  | onlyL | onlyH | both
  deriving DecidableEq, Repr

/-- A slot of the Interferer Table, 0 to 31 (R30). -/
abbrev Slot := Fin 32

/-- A station slot from 1 to 63, as its number less one; slot 0 is the group record and is not stored (R79, R81). -/
abbrev StationSlot := Fin 63

/-- The results that reach the Station Table as counter claims (R88). -/
inductive ClaimResult where
  | ok | lost
  deriving DecidableEq, Repr

/-- The six per-lane attention conditions, in priority order 1 to 6 (Table 10-5). -/
inductive LaneCondition where
  | laneHalted | linkFault | switchFailed | noFallback | stackShed | fallbackDone
  deriving DecidableEq, Repr

/-- A stored attention flag: per-lane conditions 1 to 6 with their lane, part-wide conditions 7 and 8 (Table 10-5). -/
inductive Flag where
  | lane (c : LaneCondition) (l : Lane)
  | tableFull
  | cadenceChange
  deriving DecidableEq, Repr

/-- A plan span as two bytes: primary slice, width (Table 11-1). -/
structure RawPlan where
  primary : Byte
  width : Byte
  deriving DecidableEq, Repr

/-- An argument that may be omitted (presence 00h), given (01h) or, where the command says so, removed (02h) (R180). -/
inductive Given (α : Type) where
  | omitted
  | value (a : α)
  | remove
  deriving DecidableEq, Repr

/-- The arguments of PLACE (R47). -/
structure PlaceArgs where
  kind : Byte
  band : Byte
  first : Byte
  count : Byte
  level : Byte
  duty : Option Byte
  onDuration : Option Half
  phase : Option Half
  deriving DecidableEq, Repr

/-- The arguments of the interferer AMEND (R49). -/
structure InterfererAmendArgs where
  slot : Byte
  span : Option (Byte × Byte)
  level : Option Byte
  kind : Option Byte
  duty : Option Byte
  onDuration : Option Half
  phase : Given Half
  deriving DecidableEq, Repr

/-- The arguments of ADMIT (R84). -/
structure AdmitArgs where
  primary : Address
  aliasAddr : Option Address
  bands : Byte
  width : Byte
  home : Byte
  floor : Option Half
  deriving DecidableEq, Repr

/-- The arguments of the station AMEND (R85). -/
structure StationAmendArgs where
  slot : Byte
  aliasAddr : Given Address
  bands : Option Byte
  width : Option Byte
  home : Option Byte
  floor : Option Half
  deriving DecidableEq, Repr

/-- The two forms of EVAL's candidate (R115). -/
inductive EvalTarget where
  | position (p : Byte)
  | adHoc (plan : RawPlan)
  deriving DecidableEq, Repr

/-- The seven flag bytes of CLEAR ATTENTION, in their order on the wire (R182). -/
structure FlagBytes where
  laneHalted : Byte
  linkFault : Byte
  switchFailed : Byte
  noFallback : Byte
  stackShed : Byte
  fallbackDone : Byte
  part : Byte
  deriving DecidableEq, Repr

/-- What a steering request carries (R90). -/
structure SteeringRequest where
  slot : StationSlot
  primary : Address
  home : Lane
  bands : BandSet
  width : Width
  deriving DecidableEq, Repr

/-- What a steering result carries (R90): the request's slot, primary address and home lane, and the lane named or none. -/
structure SteeringResult where
  slot : StationSlot
  primary : Address
  home : Lane
  named : Option Lane
  deriving DecidableEq, Repr

/-- What happens on LnRXD: the first byte of a message begins (R159, R160 read HOLD and the holdoff setting then),
or the message in reception completes or ends short, with the bytes received (R154, R157). -/
inductive LineEvent where
  | firstByte
  | ends (bytes : List Byte)
  deriving DecidableEq, Repr

/-- One constructor for each row of spec/opcode_table.json, in the table's order. CHECK_FAILED carries the bits sampled on
SDI, one for each SCK clock (R167). -/
inductive Instr where
  | powerOnReset
  | resetRelease
  | tick
  | softReset
  | softResetBlock (b : Block)
  | laneMessageArrival (l : Lane) (e : LineEvent)
  | helloArrival (l : Lane)
  | hello (l : Lane)
  | outboundSend (l : Lane)
  | query
  | outcome (l : Lane)
  | grantExpiry (l : Lane) (id : Byte)
  | counterClaim (primary : Address) (result : ClaimResult)
  | survey
  | riseReport (slot : Slot) (rise : AirTime)
  | anchorMissReport (slot : Slot)
  | holdoverExpiry
  | cadenceStateNotice
  | changeNotice (slot : Slot)
  | guardChangeNotice (l : Lane)
  | modeNotice
  | drainNotice (l : Lane)
  | switchDone (l : Lane)
  | switchFailed (l : Lane)
  | switchTimeout (l : Lane)
  | settleTimerExpiry (l : Lane)
  | steeringRequest (r : SteeringRequest)
  | steeringResult (r : SteeringResult)
  | attentionSetRequest (f : Flag)
  | checkFailed (sdi : List Bool)
  | notReady
  | unknownCommand (code : Byte) (body : List Byte)
  | nop
  | place (a : PlaceArgs)
  | interfererAmend (a : InterfererAmendArgs)
  | pin (slot : Byte)
  | unpin (slot : Byte)
  | retire (slot : Byte)
  | interfererRead (slot : Byte)
  | scan
  | admitStation (a : AdmitArgs)
  | stationAmend (a : StationAmendArgs)
  | release (slot : Byte)
  | stationRead (slot : Byte)
  | find (addr : Address)
  | push (lane : Byte) (plan : RawPlan) (tolerance : Byte)
  | pop (lane : Byte)
  | continueLane (lane : Byte)
  | readPlans (lane : Byte)
  | eval (lane : Byte) (target : EvalTarget)
  | enable (lane : Byte)
  | disable (lane : Byte)
  | laneReset (lane : Byte)
  | readLane (lane : Byte)
  | setParameter (number : Byte) (qualifier : Byte) (value : BitVec 32)
  | getParameter (number : Byte) (qualifier : Byte)
  | setMode (mode : Byte)
  | status
  | readAttention
  | clearAttention (flags : FlagBytes)
  | takeChanges
  | receptionRestartAfterIdleGap (l : Lane)
  deriving DecidableEq, Repr

end Sys2Proof
end

