-- ==== Sys2Proof/Decode.lean ====
section
/-! DEFINITION. Words, transactions and commands. The opcode table gives no row any bits, so no table word spells
a command. The spec's own frames do: the bits on SDI of a control-port transaction are read into a command, total on any
bits (R167, R169, R182), and a host command is written as the bits of its frame. -/

namespace Sys2Proof

/-- No row of spec/opcode_table.json gives bits, so no word of the table's spells a command. -/
def decodeTableWord (_nbits _w : Nat) : Option Instr := none

/-! ## Parts of a command body (R180) -/

/-- An optional one-byte argument behind its presence byte. -/
def readOptByte (bytes : List Byte) : Option (Option Byte × List Byte) :=
  match bytes with
  | p :: rest =>
    if p = 0 then some (none, rest)
    else if p = 1 then
      match rest with
      | a :: rest => some (some a, rest)
      | [] => none
    else none
  | [] => none

/-- An optional two-byte argument behind its presence byte. -/
def readOptHalf (bytes : List Byte) : Option (Option Half × List Byte) :=
  match bytes with
  | p :: rest =>
    if p = 0 then some (none, rest)
    else if p = 1 then
      match rest with
      | a :: b :: rest => some (some (half a b), rest)
      | _ => none
    else none
  | [] => none

/-- An optional interferer span behind its presence byte: first slice, count. -/
def readOptSpan (bytes : List Byte) : Option (Option (Byte × Byte) × List Byte) :=
  match bytes with
  | p :: rest =>
    if p = 0 then some (none, rest)
    else if p = 1 then
      match rest with
      | a :: b :: rest => some (some (a, b), rest)
      | _ => none
    else none
  | [] => none

/-- An optional station address behind its presence byte. -/
def readOptAddress (bytes : List Byte) : Option (Option Address × List Byte) :=
  match bytes with
  | p :: rest =>
    if p = 0 then some (none, rest)
    else if p = 1 then
      match rest with
      | a :: b :: c :: d :: e :: f :: rest => some (some (address a b c d e f), rest)
      | _ => none
    else none
  | [] => none

/-- The phase of an interferer AMEND: presence 02h is "remove", with no value (R180). -/
def readGivenHalf (bytes : List Byte) : Option (Given Half × List Byte) :=
  match bytes with
  | p :: rest =>
    if p = 0 then some (.omitted, rest)
    else if p = 1 then
      match rest with
      | a :: b :: rest => some (.value (half a b), rest)
      | _ => none
    else if p = 2 then some (.remove, rest)
    else none
  | [] => none

/-- The second address of a station AMEND: presence 02h is "remove", with no value (R180). -/
def readGivenAddress (bytes : List Byte) : Option (Given Address × List Byte) :=
  match bytes with
  | p :: rest =>
    if p = 0 then some (.omitted, rest)
    else if p = 1 then
      match rest with
      | a :: b :: c :: d :: e :: f :: rest => some (.value (address a b c d e f), rest)
      | _ => none
    else if p = 2 then some (.remove, rest)
    else none
  | [] => none

/-- The body of PLACE, in the order R47 lists its arguments. -/
def readPlace (body : List Byte) : Option PlaceArgs :=
  match body with
  | k :: b :: f :: c :: l :: rest =>
    match readOptByte rest with
    | some (duty, rest) =>
      match readOptHalf rest with
      | some (on, rest) =>
        match readOptHalf rest with
        | some (phase, []) => some ⟨k, b, f, c, l, duty, on, phase⟩
        | _ => none
      | none => none
    | none => none
  | _ => none

/-- The body of the interferer AMEND, in the order R49 lists its fields. -/
def readInterfererAmend (body : List Byte) : Option InterfererAmendArgs :=
  match body with
  | slot :: rest =>
    match readOptSpan rest with
    | some (span, rest) =>
      match readOptByte rest with
      | some (level, rest) =>
        match readOptByte rest with
        | some (kind, rest) =>
          match readOptByte rest with
          | some (duty, rest) =>
            match readOptHalf rest with
            | some (on, rest) =>
              match readGivenHalf rest with
              | some (phase, []) => some ⟨slot, span, level, kind, duty, on, phase⟩
              | _ => none
            | none => none
          | none => none
        | none => none
      | none => none
    | none => none
  | [] => none

/-- The body of ADMIT, in the order R84 lists its arguments. -/
def readAdmit (body : List Byte) : Option AdmitArgs :=
  match body with
  | a :: b :: c :: d :: e :: f :: rest =>
    match readOptAddress rest with
    | some (second, bands :: width :: home :: rest) =>
      match readOptHalf rest with
      | some (floor, []) => some ⟨address a b c d e f, second, bands, width, home, floor⟩
      | _ => none
    | _ => none
  | _ => none

/-- The body of the station AMEND, in the order R85 lists its fields. -/
def readStationAmend (body : List Byte) : Option StationAmendArgs :=
  match body with
  | slot :: rest =>
    match readGivenAddress rest with
    | some (second, rest) =>
      match readOptByte rest with
      | some (bands, rest) =>
        match readOptByte rest with
        | some (width, rest) =>
          match readOptByte rest with
          | some (home, rest) =>
            match readOptHalf rest with
            | some (floor, []) => some ⟨slot, second, bands, width, home, floor⟩
            | _ => none
          | none => none
        | none => none
      | none => none
    | none => none
  | [] => none

/-- The candidate of EVAL: selector 00h and a position, or 01h and a plan span (R115, R180). -/
def readEvalTarget (bytes : List Byte) : Option EvalTarget :=
  match bytes with
  | [s, p] => if s = 0 then some (.position p) else none
  | [s, p, w] => if s = 1 then some (.adHoc ⟨p, w⟩) else none
  | _ => none

/-- A body of one byte, which names a slot, a lane or a mode. -/
def readOne (body : List Byte) (f : Byte → Instr) : Option Instr :=
  match body with
  | [a] => some (f a)
  | _ => none

/-- An empty body. -/
def readNone (body : List Byte) (i : Instr) : Option Instr :=
  if body.isEmpty then some i else none

/-- The body of EVAL: a lane, then the candidate, whose selector byte comes first of the candidate's own bytes (R115, R180);
that the lane stands before the selector is the model's reading (log entry 8). -/
def readEval (body : List Byte) : Option Instr :=
  match body with
  | lane :: rest => (readEvalTarget rest).map (.eval lane)
  | [] => none

/-- The command of a code and a body (Table 11-4); none for an unknown code, or for a body that does not match what
its code and presence bytes require (R182). -/
def decodeCommand (code : Byte) (body : List Byte) : Option Instr :=
  match code.toNat with
  | 0x00 => readNone body .nop
  | 0x50 =>
    match body with
    | [n, q, a, b, c, d] => some (.setParameter n q (word a b c d))
    | _ => none
  | 0x51 =>
    match body with
    | [n, q] => some (.getParameter n q)
    | _ => none
  | 0x52 => readOne body .setMode
  | 0x53 => readNone body .status
  | 0x54 => readNone body .softReset
  | 0x10 => (readPlace body).map .place
  | 0x11 => (readInterfererAmend body).map .interfererAmend
  | 0x12 => readOne body .pin
  | 0x13 => readOne body .unpin
  | 0x14 => readOne body .retire
  | 0x15 => readOne body .interfererRead
  | 0x16 => readNone body .scan
  | 0x20 => (readAdmit body).map .admitStation
  | 0x21 => (readStationAmend body).map .stationAmend
  | 0x22 => readOne body .release
  | 0x23 => readOne body .stationRead
  | 0x24 =>
    match body with
    | [a, b, c, d, e, f] => some (.find (address a b c d e f))
    | _ => none
  | 0x30 =>
    match body with
    | [lane, p, w, t] => some (.push lane ⟨p, w⟩ t)
    | _ => none
  | 0x31 => readOne body .pop
  | 0x32 => readOne body .continueLane
  | 0x33 => readOne body .readPlans
  | 0x34 => readEval body
  | 0x40 => readOne body .enable
  | 0x41 => readOne body .disable
  | 0x42 => readOne body .laneReset
  | 0x43 => readOne body .readLane
  | 0x60 => readNone body .readAttention
  | 0x61 =>
    match body with
    | [a, b, c, d, e, f, g] => some (.clearAttention ⟨a, b, c, d, e, f, g⟩)
    | _ => none
  | 0x62 => readNone body .takeChanges
  | _ => none

/-- The command that the frame at the start of some bytes spells; none for a frame cut short or whose check byte is wrong.
Bytes after the frame are ignored, and a good frame that spells no command is UNKNOWN_COMMAND (R169, R182). -/
def decodeBytes (bytes : List Byte) : Option Instr :=
  match bytes with
  | code :: len :: rest =>
    let body := rest.take len.toNat
    if rest[len.toNat]? = some (checkByte (code :: len :: body)) then
      some ((decodeCommand code body).getD (.unknownCommand code body))
    else none
  | _ => none

/-- The command that one transaction carries, from the bits sampled on SDI while CS_N was low. A frame cut short, within a
byte or between two, or whose check byte is wrong, is CHECK_FAILED (R167, R169). -/
def decodeTransaction (sdi : List Bool) : Instr :=
  (decodeBytes (bytesOfBits sdi)).getD (.checkFailed sdi)

/-! ## The encoder -/

def optByteBytes (x : Option Byte) : List Byte :=
  match x with
  | some a => [1, a]
  | none => [0]

def optHalfBytes (x : Option Half) : List Byte :=
  match x with
  | some a => 1 :: halfBytes a
  | none => [0]

def optSpanBytes (x : Option (Byte × Byte)) : List Byte :=
  match x with
  | some (a, b) => [1, a, b]
  | none => [0]

def optAddressBytes (x : Option Address) : List Byte :=
  match x with
  | some a => 1 :: addressBytes a
  | none => [0]

def givenHalfBytes (x : Given Half) : List Byte :=
  match x with
  | .omitted => [0]
  | .value a => 1 :: halfBytes a
  | .remove => [2]

def givenAddressBytes (x : Given Address) : List Byte :=
  match x with
  | .omitted => [0]
  | .value a => 1 :: addressBytes a
  | .remove => [2]

/-- EVAL's candidate behind its selector byte, which follows the lane (log entry 8). -/
def evalTargetBytes (t : EvalTarget) : List Byte :=
  match t with
  | .position p => [0, p]
  | .adHoc plan => [1, plan.primary, plan.width]

/-- The code and body of a host command (Table 11-4, R182); none for an event that no command frame spells. -/
def Instr.codeAndBody (i : Instr) : Option (Byte × List Byte) :=
  match i with
  | .nop => some (0x00, [])
  | .setParameter n q v => some (0x50, [n, q] ++ wordBytes v)
  | .getParameter n q => some (0x51, [n, q])
  | .setMode m => some (0x52, [m])
  | .status => some (0x53, [])
  | .softReset => some (0x54, [])
  | .place a =>
    some (0x10, [a.kind, a.band, a.first, a.count, a.level] ++ optByteBytes a.duty ++ optHalfBytes a.onDuration ++
      optHalfBytes a.phase)
  | .interfererAmend a =>
    some (0x11, [a.slot] ++ optSpanBytes a.span ++ optByteBytes a.level ++ optByteBytes a.kind ++ optByteBytes a.duty ++
      optHalfBytes a.onDuration ++ givenHalfBytes a.phase)
  | .pin slot => some (0x12, [slot])
  | .unpin slot => some (0x13, [slot])
  | .retire slot => some (0x14, [slot])
  | .interfererRead slot => some (0x15, [slot])
  | .scan => some (0x16, [])
  | .admitStation a =>
    some (0x20, addressBytes a.primary ++ optAddressBytes a.aliasAddr ++ [a.bands, a.width, a.home] ++ optHalfBytes a.floor)
  | .stationAmend a =>
    some (0x21, [a.slot] ++ givenAddressBytes a.aliasAddr ++ optByteBytes a.bands ++ optByteBytes a.width ++
      optByteBytes a.home ++ optHalfBytes a.floor)
  | .release slot => some (0x22, [slot])
  | .stationRead slot => some (0x23, [slot])
  | .find a => some (0x24, addressBytes a)
  | .push lane plan tolerance => some (0x30, [lane, plan.primary, plan.width, tolerance])
  | .pop lane => some (0x31, [lane])
  | .continueLane lane => some (0x32, [lane])
  | .readPlans lane => some (0x33, [lane])
  | .eval lane t => some (0x34, lane :: evalTargetBytes t)
  | .enable lane => some (0x40, [lane])
  | .disable lane => some (0x41, [lane])
  | .laneReset lane => some (0x42, [lane])
  | .readLane lane => some (0x43, [lane])
  | .readAttention => some (0x60, [])
  | .clearAttention f =>
    some (0x61, [f.laneHalted, f.linkFault, f.switchFailed, f.noFallback, f.stackShed, f.fallbackDone, f.part])
  | .takeChanges => some (0x62, [])
  | .unknownCommand code body => some (code, body)
  | .powerOnReset => none
  | .resetRelease => none
  | .tick => none
  | .softResetBlock _ => none
  | .laneMessageArrival _ _ => none
  | .helloArrival _ => none
  | .hello _ => none
  | .outboundSend _ => none
  | .query => none
  | .outcome _ => none
  | .grantExpiry _ _ => none
  | .counterClaim _ _ => none
  | .survey => none
  | .riseReport _ _ => none
  | .anchorMissReport _ => none
  | .holdoverExpiry => none
  | .cadenceStateNotice => none
  | .changeNotice _ => none
  | .guardChangeNotice _ => none
  | .modeNotice => none
  | .drainNotice _ => none
  | .switchDone _ => none
  | .switchFailed _ => none
  | .switchTimeout _ => none
  | .settleTimerExpiry _ => none
  | .steeringRequest _ => none
  | .steeringResult _ => none
  | .attentionSetRequest _ => none
  | .checkFailed _ => none
  | .notReady => none
  | .receptionRestartAfterIdleGap _ => none

/-- A command frame: code, body length, body, check byte (R182). -/
def frameBytes (code : Byte) (body : List Byte) : List Byte :=
  withCheck (code :: natByte body.length :: body)

/-- The bits of the command frame on SDI; none for an event that is no transaction with a command frame of its own.
CHECK_FAILED is spelt by the bits that failed. -/
def encodeTransaction (i : Instr) : Option (List Bool) :=
  match i with
  | .checkFailed sdi => some sdi
  | i => i.codeAndBody.map fun cb => bitsOfBytes (frameBytes cb.1 cb.2)

/-- The SCK clocks that the command frame takes: eight for each byte of code, length, body and check byte (R167, R182). -/
def Instr.frameClocks (i : Instr) : Nat :=
  match i.codeAndBody with
  | some cb => 8 * (cb.2.length + 3)
  | none => 0

end Sys2Proof
end

