-- ==== Sys2Proof/Config.lean ====
section
/-! DEFINITION. The one free value of the model, and the fixed sizes of the part. -/

namespace Sys2Proof.Config

/-- FREE VALUE (log entry 2). The spec takes events "in whichever order they arrive" (R31, R120, R139,
R152, R166): where several events are ready at once, the part's own choice among them is this constant,
which has no body, applied to the count of choices made so far. No proof can see it. -/
opaque choice : Nat → Nat

/-- Slots of the outbound queue of a lane (R163). -/
def outboundDepth : Nat := 16

/-- Entries a plan stack can hold (R96). -/
def stackDepth : Nat := 6

/-- Outstanding grants a lane can hold (R126, R141). -/
def grantSlots : Nat := 2

/-- Check failures that set the link-fault latch (R158). -/
def failureLimit : Nat := 3

/-- Air time between TICK pulses, and the width of one pulse, in microseconds (R11). -/
def tickPeriod : Nat := 1024
def tickWidth : Nat := 4

/-- Rounds in which the command TICK takes the events before the next pulse and lets time pass between them; at most 16
events, with the time before each, can fall between two pulses (log entry 4). -/
def tickRounds : Nat := 64

/-- SCK clocks of a transaction that can carry every response in full: a frame has at most 258 bytes (R182). -/
def longestTransaction : Nat := 2064

end Sys2Proof.Config
end

