-- ==== Sys2Proof/Machine/Lanes.lean ====
section
/-! DEFINITION. One value for each of the three lanes. -/

namespace Sys2Proof

/-- Three like things, one for each lane. -/
structure PerLane (α : Type) where
  l0 : α
  l1 : α
  l2 : α
  deriving DecidableEq, Repr

namespace PerLane

variable {α : Type}

def get (p : PerLane α) (l : Lane) : α :=
  match l with
  | .l0 => p.l0
  | .l1 => p.l1
  | .l2 => p.l2

def set (p : PerLane α) (l : Lane) (a : α) : PerLane α :=
  match l with
  | .l0 => { p with l0 := a }
  | .l1 => { p with l1 := a }
  | .l2 => { p with l2 := a }

end PerLane

/-- The lanes in ascending order of their numbers. -/
def Lane.all : List Lane := [.l0, .l1, .l2]

/-- A lane's number. -/
def Lane.toNat (l : Lane) : Nat :=
  match l with
  | .l0 => 0
  | .l1 => 1
  | .l2 => 2

end Sys2Proof
end

