-- ==== Sys2Proof/Machine/State.lean ====
section
/-! DEFINITION. The state of the part: every register, timer, queue and table the spec names, as plain data,
and its value after power-on reset. -/

namespace Sys2Proof.Machine

open Sys2Proof

/-! ## Parameters (Table 10-4, R172) -/

/-- MAINS_NOMINAL (R14). -/
inductive Mains where
  | any | hz50 | hz60
  deriving DecidableEq, Repr

/-- The parameter set, in Table 10-4's order and units. A mask is true when the condition is masked;
holdoff is true when ON; attentionMask is indexed by priority number less one (Table 10-5). -/
structure Params where
  mainsNominal : Mains
  lockCount : Nat
  edgeTol : Nat
  holdoverLimit : Nat
  detectLevel : Nat
  steadyFloor : Nat
  matchTol : Nat
  coverageLimit : Nat
  confirmCount : Nat
  fadeMisses : Nat
  retireMisses : Nat
  tentativeMisses : Nat
  grantLead : Nat
  guardFloor : Nat
  guardCeiling : Nat
  guardInitial : Nat
  guardStep : Nat
  guardRelaxRun : Nat
  expiryMargin : Nat
  strangerFloor : Nat
  strainLosses : Nat
  recoverRun : Nat
  steerMargin : Nat
  settleTime : Nat
  switchCountdown : Nat
  switchTimeout : Nat
  switchRetries : Nat
  overflowMask : Bool
  underflowMask : Bool
  holdoff : PerLane Bool
  attentionMask : Vector Bool 10
  deriving DecidableEq, Repr

/-- The defaults of Table 10-4. -/
def Params.default : Params where
  mainsNominal := .any
  lockCount := 4
  edgeTol := 400
  holdoverLimit := 10
  detectLevel := 12
  steadyFloor := 16
  matchTol := 1000
  coverageLimit := 64
  confirmCount := 4
  fadeMisses := 8
  retireMisses := 32
  tentativeMisses := 3
  grantLead := 60
  guardFloor := 150
  guardCeiling := 1000
  guardInitial := 300
  guardStep := 50
  guardRelaxRun := 32
  expiryMargin := 2000
  strangerFloor := 200
  strainLosses := 6
  recoverRun := 8
  steerMargin := 8
  settleTime := 2
  switchCountdown := 5
  switchTimeout := 3000
  switchRetries := 3
  overflowMask := true
  underflowMask := true
  holdoff := ⟨true, true, true⟩
  attentionMask := Vector.replicate 10 false

/-! ## Spectrum (R2, R4) -/

/-- A first slice and a count of slices (R2). -/
structure Span where
  first : Nat
  count : Nat
  deriving DecidableEq, Repr

/-- A plan span: primary slice and width; its band is that of the slice (R4). -/
structure PlanSpan where
  primary : Nat
  width : Width
  deriving DecidableEq, Repr

/-! ## Cadence Tracker (Table 2-1, R13) -/

inductive CadenceState where
  | free | acquiring | locked | holdover
  deriving DecidableEq, Repr

structure Tracker where
  state : CadenceState
  period : Nat
  reference : Option AirTime
  candidate : Option Nat
  consistent : Nat
  outliers : Nat
  anchor : Option Slot
  anchorOffset : Nat
  anchorMisses : Nat
  /-- The deadline of the holdover timer; none while it is stopped. -/
  holdover : Option AirTime
  deriving DecidableEq, Repr

/-- Table 2-1's last column. -/
def Tracker.reset : Tracker where
  state := .free
  period := 20000
  reference := none
  candidate := none
  consistent := 0
  outliers := 0
  anchor := none
  anchorOffset := 0
  anchorMisses := 0
  holdover := none

/-! ## Interferer Table (Table 3-1, R32) -/

/-- A record's kind with the fields present for it: on-duration and optional phase, or duty (R32). -/
inductive Emission where
  | cadenced (onDuration : Nat) (phase : Option Nat)
  | steady (duty : Nat)
  | sporadic (duty : Nat)
  deriving DecidableEq, Repr

inductive Life where
  | tentative | confirmed | fading | pinned
  deriving DecidableEq, Repr

inductive Origin where
  | learned | placed
  deriving DecidableEq, Repr

structure Interferer where
  emission : Emission
  span : Span
  level : Nat
  confidence : Nat
  misses : Nat
  life : Life
  origin : Origin
  deriving DecidableEq, Repr

/-! ## Station Table (Table 5-1, R80) -/

inductive Condition where
  | normal | strained
  deriving DecidableEq, Repr

structure Station where
  primary : Address
  aliasAddr : Option Address
  bands : BandSet
  width : Width
  home : Lane
  floor : Nat
  lossStreak : Nat
  okRun : Nat
  condition : Condition
  advice : Option Lane
  deriving DecidableEq, Repr

/-! ## Plan Stacks (Tables 6-1 to 6-4, R94 to R97) -/

inductive Tag where
  | valid | stale
  deriving DecidableEq, Repr

structure PlanEntry where
  plan : PlanSpan
  tolerance : Nat
  tag : Tag
  deriving DecidableEq, Repr

inductive SwitchKind where
  | fallback | push | pop | restore
  deriving DecidableEq, Repr

structure SwitchRecord where
  kind : SwitchKind
  position : Nat
  target : PlanSpan
  deriving DecidableEq, Repr

inductive PlanState where
  | disabled | settled | draining | switching | unsynced | halted
  deriving DecidableEq, Repr

/-- One lane's state at the Plan Stacks. The stack is listed from the bottom, position 1, to the top. -/
structure PlanLane where
  band : Band
  stack : List PlanEntry
  state : PlanState
  switch : Option SwitchRecord
  attempts : Nat
  settle : Option AirTime
  timeout : Option AirTime
  deriving DecidableEq, Repr

/-- Table 6-1's last column, for a lane whose default band is given. -/
def PlanLane.reset (b : Band) : PlanLane where
  band := b
  stack := []
  state := .disabled
  switch := none
  attempts := 0
  settle := none
  timeout := none

/-! ## Grant Engine (Tables 7-1 and 8-1, R121, R137, R142) -/

/-- The address class stored in a grant (R127). -/
inductive GrantClass where
  | primary (a : Address)
  | stranger
  | group
  deriving DecidableEq, Repr

/-- Table 7-6. -/
structure GoFlags where
  stranger : Bool
  strained : Bool
  narrowed : Bool
  holdover : Bool
  unpredicted : Bool
  bypass : Bool
  deriving DecidableEq, Repr

structure Grant where
  id : Byte
  cls : GrantClass
  span : PlanSpan
  start : AirTime
  cap : Nat
  guard : Nat
  flags : GoFlags
  /-- The expiry time, which is the deadline of the grant's own timer (R137, R141). -/
  expiry : AirTime
  deriving DecidableEq, Repr

/-- Table 8-2. -/
inductive ClosingCode where
  | ok | abandoned | lost | expired | laneReset | partReset
  deriving DecidableEq, Repr

/-- The last closure: id, code, and the used airtime when the closure was by OUTCOME (R142, R143). -/
structure Closure where
  id : Byte
  code : ClosingCode
  used : Option Nat
  deriving DecidableEq, Repr

/-- One lane's state at the Grant Engine; outstanding grants in the order issued. -/
structure GrantLane where
  nextId : Byte
  outstanding : List Grant
  edgeGuard : Nat
  okRun : Nat
  lastClosure : Option Closure
  deriving DecidableEq, Repr

/-- The power-on and soft-reset values of Tables 7-1 and 8-1, for the GUARD_INITIAL given. -/
def GrantLane.reset (guardInitial : Nat) : GrantLane where
  nextId := 0
  outstanding := []
  edgeGuard := guardInitial
  okRun := 0
  lastClosure := none

/-! ## Lane Link Interface (Tables 9-1 to 9-3, R154, R156) -/

/-- The inbound kinds (Table 9-1). -/
inductive InKind where
  | query | outcome | survey | switchDone | switchFailed | hello
  deriving DecidableEq, Repr

/-- A message in an inbound holder, with the air time at which it entered (R59 orders surveys by it). -/
structure Held where
  kind : InKind
  body : List Byte
  entered : AirTime
  deriving DecidableEq, Repr

inductive RefusalReason where
  | disabled | switching | halted | tooMany
  deriving DecidableEq, Repr

inductive OutcomeAnswer where
  | accepted | tooLate
  deriving DecidableEq, Repr

inductive NakReason where
  | check | malformed | overrun | unexpected | disabled | faulted
  deriving DecidableEq, Repr

/-- The outbound messages (Tables 9-1 and 11-3). A WELCOME in the queue has no air time yet: it is stamped when
its first byte begins to leave (R164). A NAK carries a kind byte as received, 00h for none (R181). -/
inductive OutMsg where
  | go (id : Byte) (start : AirTime) (cap : Nat) (span : PlanSpan) (flags : GoFlags)
  | blocked (flags : GoFlags)
  | refused (reason : RefusalReason)
  | outcomeAnswer (answer : OutcomeAnswer) (id : Byte)
  | switchOrder (target : PlanSpan) (countdown : Nat)
  | welcome (lane : Lane) (band : Band)
  | nak (reason : NakReason) (kind : Byte)
  deriving DecidableEq, Repr

/-- What the receiver of a lane is doing (R156, R165): idle; receiving a message at whose first byte HOLD and the
holdoff setting stood as given (R159, R160); or waiting for an idle gap after a soft reset. -/
inductive Reception where
  | idle
  | inProgress (hold : Bool) (holdoff : Bool)
  | awaitingGap
  deriving DecidableEq, Repr

/-- One lane's link state (Table 9-3), and the bytes of the message last begun on LnTXD. -/
structure LinkLane where
  holder : Option Held
  failures : Nat
  latch : Bool
  outbound : List OutMsg
  reception : Reception
  txd : List Byte
  deriving DecidableEq, Repr

/-- Table 9-3 after power-on reset. -/
def LinkLane.reset : LinkLane where
  holder := none
  failures := 0
  latch := false
  outbound := []
  reception := .idle
  txd := []

/-! ## Control Port and Attention (R167, R170, R173, R174, R176) -/

inductive Mode where
  | run | bypass
  deriving DecidableEq, Repr

inductive StartCause where
  | power | soft
  deriving DecidableEq, Repr

/-- Table 10-2. -/
inductive Status where
  | done | notReady | checkFailed | badArgument | notFound | duplicate | full | busy | refused | stackFull
  | lastPlan | emptyStack
  deriving DecidableEq, Repr

structure Response where
  status : Status
  body : List Byte
  deriving DecidableEq, Repr

/-- DONE with an empty body (Table 10-1). -/
def Response.done : Response := ⟨.done, []⟩

/-- The six per-lane flags of one lane (Table 10-5). -/
structure LaneFlags where
  laneHalted : Bool
  linkFault : Bool
  switchFailed : Bool
  noFallback : Bool
  stackShed : Bool
  fallbackDone : Bool
  deriving DecidableEq, Repr

def LaneFlags.clear : LaneFlags := ⟨false, false, false, false, false, false⟩

structure Flags where
  lanes : PerLane LaneFlags
  tableFull : Bool
  cadenceChange : Bool
  deriving DecidableEq, Repr

def Flags.clear : Flags := ⟨⟨.clear, .clear, .clear⟩, false, false⟩

/-- Work that one block has handed another and that its receiver has not yet taken (R56, R88, R90, R101, R149, R174, R176). -/
inductive Handed where
  | counterClaim (primary : Address) (result : ClaimResult)
  | riseReport (slot : Slot) (rise : AirTime)
  | anchorMissReport (slot : Slot)
  | cadenceStateNotice
  | changeNotice (slot : Slot)
  | guardChangeNotice (l : Lane)
  | modeNotice
  | drainNotice (l : Lane)
  | steeringRequest (r : SteeringRequest)
  | steeringResult (r : SteeringResult)
  | attentionSetRequest (f : Flag)
  deriving DecidableEq, Repr

/-! ## The whole part -/

/-- A stop by fault. The spec gives the part none: a wrong message is answered NAK (Table 9-2) and a wrong command is
answered with a status (Table 10-2), so there is no constructor, nothing raises one, and nothing is lost (safe). -/
inductive Fault where
  deriving DecidableEq, Repr

/-- A stop for want of a meaning. -/
inductive Refusal where
  /-- Raised by an arm of exec whose command has no meaning yet; safe. No arm is in that case. -/
  | notModelled (mnemonic : String)
  deriving DecidableEq, Repr

structure State where
  /-- The level of RESET_N; false holds the part in power-on reset (R6, R165, R174). -/
  resetN : Bool
  airTime : AirTime
  tick : Bool
  ready : Bool
  /-- The pending response (R167). -/
  response : Response
  /-- The answer of a command in execution, which becomes the pending response as the command completes and READY rises;
  none when no command is in execution (R168). -/
  answer : Option Response
  /-- An input: the SCK clocks for which the host processor keeps CS_N low in a transaction, where they are more than its
  command frame takes (R167; log entry 17). No command changes it. -/
  clocks : Nat
  /-- The bits that SDO shifted out in the last transaction, one for each SCK clock; none before the first (R167). -/
  sdo : List Bool
  params : Params
  mode : Mode
  startCause : StartCause
  flags : Flags
  /-- The changed-interferer set: bit s is slot s (R179, R183). -/
  changed : BitVec 32
  /-- The advised-station set: bit s is station slot s; bit 0 is never set (R179, R183). -/
  advised : BitVec 64
  /-- The blocks that have been handed a soft reset and have not taken it (R174). -/
  resets : List Block
  tracker : Tracker
  table : Vector (Option Interferer) 32
  coverage : Vector Nat 48
  stations : Vector (Option Station) 63
  plans : PerLane PlanLane
  arbiter : Lane
  grants : PerLane GrantLane
  links : PerLane LinkLane
  /-- Work handed between blocks and not yet taken, oldest first. -/
  handed : List Handed
  /-- The MODEL's own field: how many free choices have been made (log entry 2). -/
  choices : Nat
  /-- Commands from outside that are waiting, first in first out. -/
  pending : List Instr
  deriving DecidableEq, Repr

/-- The part while RESET_N is held low: the power-on values of every chapter, counter and TICK at 0, READY low. -/
def State.powerOn : State where
  resetN := false
  airTime := 0
  tick := false
  ready := false
  response := .done
  answer := none
  clocks := Config.longestTransaction
  sdo := []
  params := .default
  mode := .run
  startCause := .power
  flags := .clear
  changed := 0
  advised := 0
  resets := []
  tracker := .reset
  table := Vector.replicate 32 none
  coverage := Vector.replicate 48 255
  stations := Vector.replicate 63 none
  plans := ⟨.reset .l, .reset .l, .reset .h⟩
  arbiter := .l2
  grants := ⟨.reset 300, .reset 300, .reset 300⟩
  links := ⟨.reset, .reset, .reset⟩
  handed := []
  choices := 0
  pending := []

/-- The machine right after reset: RESET_N released, air time 0, READY high (R6, R174). -/
def State.reset : State := { State.powerOn with resetN := true, ready := true }

end Sys2Proof.Machine
end

