-- ==== Sys2Proof/Machine/Spectrum.lean ====
section
/-! DEFINITION. Slices, bands, spans and plan spans (R1 to R5). -/

namespace Sys2Proof

/-- The band of a slice follows from its number alone (R1). -/
def Band.ofSlice (n : Nat) : Band := if n < 16 then .l else .h

/-- A band is among a station's bands (R90). -/
def BandSet.has (s : BandSet) (b : Band) : Bool :=
  match s, b with
  | .onlyL, .l => true
  | .onlyL, .h => false
  | .onlyH, .l => false
  | .onlyH, .h => true
  | .both, _ => true

end Sys2Proof

namespace Sys2Proof.Machine

open Sys2Proof

/-- The band of a span is the band of its slices (R2). -/
def Span.band (s : Span) : Band := Band.ofSlice s.first

/-- A span lies wholly within one band and has a count of at least 1 (R2). -/
def Span.valid (s : Span) : Bool :=
  decide (1 ≤ s.count) &&
    (decide (s.first + s.count ≤ 16) || (decide (16 ≤ s.first) && decide (s.first + s.count ≤ 48)))

/-- An interferer span: a span of 1 to 16 slices in band L, 1 to 8 in band H (R2). -/
def Span.isInterfererSpan (s : Span) : Bool :=
  s.valid && (s.band == .l || decide (s.count ≤ 8))

/-- The number of slices two spans share (R3). -/
def Span.overlap (a b : Span) : Nat :=
  min (a.first + a.count) (b.first + b.count) - max a.first b.first

/-- Two spans overlap if they share at least one slice (R3). -/
def Span.overlaps (a b : Span) : Bool := decide (0 < a.overlap b)

/-- The slices of a span. -/
def Span.slices (s : Span) : List Nat := (List.range s.count).map (s.first + ·)

def PlanSpan.band (p : PlanSpan) : Band := Band.ofSlice p.primary

/-- A plan span is valid when it satisfies a row of R4's table. -/
def PlanSpan.valid (p : PlanSpan) : Bool :=
  match p.band, p.width with
  | .l, .w20 => decide (p.primary ≤ 12)
  | .l, .w40 => decide (p.primary ≤ 8)
  | .h, .w20 => decide (p.primary ≤ 47)
  | .h, .w40 => decide (p.primary ≤ 46) && p.primary % 2 == 0

/-- The slices a plan span covers (R4). -/
def PlanSpan.span (p : PlanSpan) : Span :=
  match p.band, p.width with
  | .l, .w20 => ⟨p.primary, 4⟩
  | .l, .w40 => ⟨p.primary, 8⟩
  | .h, .w20 => ⟨p.primary, 1⟩
  | .h, .w40 => ⟨p.primary, 2⟩

/-- The primary half: the 20 MHz plan span on the same primary channel (R5). -/
def PlanSpan.primaryHalf (p : PlanSpan) : PlanSpan := ⟨p.primary, .w20⟩

end Sys2Proof.Machine
end

