-- ==== Sys2Proof/Machine/Operands.lean ====
section
/-! DEFINITION. Operand bytes as the values they stand for (R180, Tables 11-1 to 11-3), the bodies of inbound
lane messages, and the byte layouts of outbound messages and responses. A value outside its encoding's list
reads as none; the command or owner that reads it decides what that means. -/

namespace Sys2Proof

/-! ## Operand bytes of the base types (Table 11-2) -/

def Lane.ofByte? (b : Byte) : Option Lane :=
  if b = 0 then some .l0 else if b = 1 then some .l1 else if b = 2 then some .l2 else none

def Lane.byte (l : Lane) : Byte := natByte l.toNat

def Band.ofByte? (b : Byte) : Option Band :=
  if b = 0 then some .l else if b = 1 then some .h else none

def Band.byte (b : Band) : Byte :=
  match b with
  | .l => 0
  | .h => 1

def Width.ofByte? (b : Byte) : Option Width :=
  if b = 20 then some .w20 else if b = 40 then some .w40 else none

def Width.byte (w : Width) : Byte :=
  match w with
  | .w20 => 20
  | .w40 => 40

/-- Station bands: 00h is malformed (Table 11-2). -/
def BandSet.ofByte? (b : Byte) : Option BandSet :=
  if b = 1 then some .onlyL else if b = 2 then some .onlyH else if b = 3 then some .both else none

def BandSet.byte (s : BandSet) : Byte :=
  match s with
  | .onlyL => 1
  | .onlyH => 2
  | .both => 3

/-- A slot byte names a slot of the Interferer Table, 0 to 31 (R46). -/
def Slot.ofByte? (b : Byte) : Option Slot :=
  if h : b.toNat < 32 then some ⟨b.toNat, h⟩ else none

/-- The group bit: the least significant bit of the first octet (R82). -/
def Address.isGroup (a : Address) : Bool := a.getLsbD 40

end Sys2Proof

namespace Sys2Proof.Machine

open Sys2Proof

/-- A raw plan span as the plan span it names; none when it is not valid (R4, Table 11-1). -/
def planOf? (r : RawPlan) : Option PlanSpan :=
  match Width.ofByte? r.width with
  | some w => if (PlanSpan.mk r.primary.toNat w).valid then some ⟨r.primary.toNat, w⟩ else none
  | none => none

/-! ## Enumeration bytes (Table 11-2) -/

def Emission.kindByte (e : Emission) : Byte :=
  match e with
  | .cadenced _ _ => 0
  | .steady _ => 1
  | .sporadic _ => 2

def Life.byte (l : Life) : Byte :=
  match l with
  | .tentative => 0
  | .confirmed => 1
  | .fading => 2
  | .pinned => 3

def Origin.byte (o : Origin) : Byte :=
  match o with
  | .learned => 0
  | .placed => 1

def RefusalReason.byte (r : RefusalReason) : Byte :=
  match r with
  | .disabled => 0
  | .switching => 1
  | .halted => 2
  | .tooMany => 3

def OutcomeAnswer.byte (a : OutcomeAnswer) : Byte :=
  match a with
  | .accepted => 0
  | .tooLate => 1

def NakReason.byte (r : NakReason) : Byte :=
  match r with
  | .check => 0
  | .malformed => 1
  | .overrun => 2
  | .unexpected => 3
  | .disabled => 4
  | .faulted => 5

def PlanState.byte (p : PlanState) : Byte :=
  match p with
  | .disabled => 0
  | .settled => 1
  | .draining => 2
  | .switching => 3
  | .unsynced => 4
  | .halted => 5

def CadenceState.byte (c : CadenceState) : Byte :=
  match c with
  | .free => 0
  | .acquiring => 1
  | .locked => 2
  | .holdover => 3

def SwitchKind.byte (k : SwitchKind) : Byte :=
  match k with
  | .fallback => 0
  | .push => 1
  | .pop => 2
  | .restore => 3

def Tag.byte (t : Tag) : Byte :=
  match t with
  | .valid => 0
  | .stale => 1

def Condition.byte (c : Condition) : Byte :=
  match c with
  | .normal => 0
  | .strained => 1

def Mode.byte (m : Mode) : Byte :=
  match m with
  | .run => 0
  | .bypass => 1

def StartCause.byte (c : StartCause) : Byte :=
  match c with
  | .power => 0
  | .soft => 1

def Status.byte (s : Status) : Byte :=
  match s with
  | .done => 0
  | .notReady => 1
  | .checkFailed => 2
  | .badArgument => 3
  | .notFound => 4
  | .duplicate => 5
  | .full => 6
  | .busy => 7
  | .refused => 8
  | .stackFull => 9
  | .lastPlan => 10
  | .emptyStack => 11

/-- Closing codes in two's complement (Tables 8-2 and 11-1). -/
def ClosingCode.byte (c : ClosingCode) : Byte :=
  match c with
  | .ok => 0x02
  | .abandoned => 0x01
  | .lost => 0xFF
  | .expired => 0xFE
  | .laneReset => 0xFD
  | .partReset => 0xFC

/-- GO flags: bit 0 STRANGER to bit 5 BYPASS, bits 6 and 7 zero (Table 11-1). -/
def GoFlags.byte (f : GoFlags) : Byte :=
  BitVec.ofBoolListBE [false, false, f.bypass, f.unpredicted, f.holdover, f.narrowed, f.strained, f.stranger]

/-- The stored address class of a grant: class byte, then the address, zero for stranger and group (Table 11-1). -/
def GrantClass.bytes (c : GrantClass) : List Byte :=
  match c with
  | .primary a => 0 :: addressBytes a
  | .stranger => 1 :: addressBytes 0
  | .group => 2 :: addressBytes 0

def PlanSpan.bytes (p : PlanSpan) : List Byte := [natByte p.primary, p.width.byte]

/-- A clear fraction in a response: 0 to 64, FFh for UNKNOWN (Table 11-1). -/
def fractionByte (q : Option Nat) : Byte :=
  match q with
  | some n => natByte n
  | none => 0xFF

/-- An optional one-byte item of a response, FFh when absent (Table 11-1). -/
def optNatByte (n : Option Nat) : Byte :=
  match n with
  | some n => natByte n
  | none => 0xFF

/-- An optional two-byte item of a response, FFFFh when absent (Table 11-1). -/
def optNatHalf (n : Option Nat) : List Byte :=
  match n with
  | some n => natHalf n
  | none => [0xFF, 0xFF]

def optLaneByte (l : Option Lane) : Byte :=
  match l with
  | some l => l.byte
  | none => 0xFF

/-! ## Inbound kinds and lengths (Tables 9-1 and 11-3, R181) -/

def InKind.byte (k : InKind) : Byte :=
  match k with
  | .query => 1
  | .outcome => 2
  | .survey => 3
  | .switchDone => 4
  | .switchFailed => 5
  | .hello => 6

def InKind.ofByte? (b : Byte) : Option InKind :=
  if b = 1 then some .query
  else if b = 2 then some .outcome
  else if b = 3 then some .survey
  else if b = 4 then some .switchDone
  else if b = 5 then some .switchFailed
  else if b = 6 then some .hello
  else none

/-- The body lengths the formats chapter allows (Table 11-3). -/
def InKind.allows (k : InKind) (n : Nat) : Bool :=
  match k with
  | .query => n == 8
  | .outcome => n == 4
  | .survey => decide (12 ≤ n) && decide (n ≤ 136)
  | .switchDone => n == 2
  | .switchFailed => n == 2
  | .hello => n == 0

/-! ## Bodies read by their owners -/

/-- A QUERY that passes R123: any address, and a requested airtime of 16 to 8,000. -/
structure Query where
  addr : Address
  airtime : Nat
  deriving DecidableEq, Repr

/-- R123. -/
def parseQuery (body : List Byte) : Option Query :=
  match body with
  | [a, b, c, d, e, f, x, y] =>
    let n := (half x y).toNat
    if 16 ≤ n ∧ n ≤ 8000 then some ⟨address a b c d e f, n⟩ else none
  | _ => none

/-- The results of an OUTCOME (R144). -/
inductive Outcome where
  | ok | lost | abandoned
  deriving DecidableEq, Repr

def Outcome.ofByte? (b : Byte) : Option Outcome :=
  if b = 0 then some .ok else if b = 1 then some .lost else if b = 2 then some .abandoned else none

structure OutcomeReport where
  id : Byte
  result : Outcome
  used : Nat
  deriving DecidableEq, Repr

/-- R144: a result outside the three values or a used airtime above 8,000 makes the OUTCOME malformed. -/
def parseOutcome (body : List Byte) : Option OutcomeReport :=
  match body with
  | [i, r, x, y] =>
    match Outcome.ofByte? r with
    | some r => if (half x y).toNat ≤ 8000 then some ⟨i, r, (half x y).toNat⟩ else none
    | none => none
  | _ => none

/-- One reading of a SURVEY; the burst is its rise and fall offsets (Table 4-1). -/
structure Reading where
  slice : Nat
  level : Nat
  busy : Nat
  burst : Option (Nat × Nat)
  deriving DecidableEq, Repr

/-- The contents of a SURVEY (Table 4-1). -/
structure Survey where
  start : AirTime
  length : Nat
  band : Band
  readings : List Reading
  deriving DecidableEq, Repr

/-- The readings of a SURVEY body: as many as counted, each with its presence byte 00h or 01h, and nothing after
them (Table 11-3, R181). -/
def parseReadings (count : Nat) (bytes : List Byte) : Option (List Reading) :=
  match count with
  | 0 => if bytes.isEmpty then some [] else none
  | n + 1 =>
    match bytes with
    | s :: l :: u :: p :: rest =>
      if p = 0 then
        (parseReadings n rest).map (⟨s.toNat, l.toNat, u.toNat, none⟩ :: ·)
      else if p = 1 then
        match rest with
        | a :: b :: c :: d :: rest =>
          (parseReadings n rest).map (⟨s.toNat, l.toNat, u.toNat, some ((half a b).toNat, (half c d).toNat)⟩ :: ·)
        | _ => none
      else none
    | _ => none

/-- The slices of the readings rise strictly (R60, check 6). -/
def risingSlices : List Reading → Bool
  | [] => true
  | [_] => true
  | a :: b :: rest => decide (a.slice < b.slice) && risingSlices (b :: rest)

/-- Checks 5, 7 and 8 of R60 on one reading. -/
def Reading.valid (r : Reading) (band : Band) (length : Nat) : Bool :=
  decide (r.slice ≤ 47) && (Band.ofSlice r.slice == band) && decide (r.level ≤ 63) && decide (r.busy ≤ 64) &&
    match r.burst with
    | some (rise, fall) => decide (rise < fall) && decide (fall ≤ length)
    | none => true

/-- Checks 1 and 4 to 8 of R60; check 3 compares the band with the lane's and is the intake's. -/
def Survey.valid (v : Survey) : Bool :=
  decide (1000 ≤ v.length) && decide (v.length ≤ 65535) &&
    decide (1 ≤ v.readings.length) && decide (v.readings.length ≤ 16) &&
    risingSlices v.readings && v.readings.all (·.valid v.band v.length)

/-- The layout of a SURVEY body (Table 11-3), with check 2 of R60 on the band byte. -/
def parseSurvey (body : List Byte) : Option Survey :=
  match body with
  | a :: b :: c :: d :: x :: y :: band :: count :: rest =>
    match Band.ofByte? band, parseReadings count.toNat rest with
    | some band, some readings => some ⟨word a b c d, (half x y).toNat, band, readings⟩
    | _, _ => none
  | _ => none

/-- The plan span a switch answer carries; none when the answer is malformed (R161). -/
def parsePlan (body : List Byte) : Option PlanSpan :=
  match body with
  | [p, w] => planOf? ⟨p, w⟩
  | _ => none

/-! ## Outbound messages (Table 11-3) -/

/-- The kind byte and body of an outbound message whose first byte begins to leave at the air time given, which
stamps a WELCOME (R164). -/
def OutMsg.kindAndBody (m : OutMsg) (now : AirTime) : Byte × List Byte :=
  match m with
  | .go id start cap span flags => (0x81, [0, id] ++ wordBytes start ++ natHalf cap ++ span.bytes ++ [flags.byte])
  | .blocked flags => (0x81, [1, flags.byte])
  | .refused reason => (0x81, [2, reason.byte])
  | .outcomeAnswer answer id => (0x82, [answer.byte, id])
  | .switchOrder target countdown => (0x83, target.bytes ++ [natByte countdown])
  | .welcome lane band => (0x84, wordBytes now ++ [lane.byte, band.byte])
  | .nak reason kind => (0x85, [reason.byte, kind])

/-- The bytes of an outbound message on LnTXD (R154, R155). -/
def OutMsg.bytes (m : OutMsg) (now : AirTime) : List Byte :=
  let kb := m.kindAndBody now
  withCheck (kb.1 :: natByte kb.2.length :: kb.2)

/-! ## Responses (R182) -/

/-- The bytes of a response frame on SDO (R182). -/
def Response.frame (r : Response) : List Byte :=
  withCheck (r.status.byte :: natByte r.body.length :: r.body)

/-- The bits on SDO over so many SCK clocks: the frame's bits, most significant bit of each byte first, and 0 after its
last byte. A transaction that ends before the frame's last bit loses the rest (R167, R182). -/
def Response.shiftOut (r : Response) (clocks : Nat) : List Bool :=
  (bitsOfBytes r.frame ++ List.replicate clocks false).take clocks

end Sys2Proof.Machine
end

