-- ==== Sys2Proof/Machine/Flags.lean ====
section
/-! DEFINITION. Attention: the stored flags, the pending conditions, ATTN, and the bytes READ ATTENTION and CLEAR
ATTENTION carry (R176 to R178, R182). -/

namespace Sys2Proof

/-- The per-lane conditions in priority order (Table 10-5). -/
def LaneCondition.all : List LaneCondition :=
  [.laneHalted, .linkFault, .switchFailed, .noFallback, .stackShed, .fallbackDone]

/-- A per-lane condition's priority number (Table 10-5). -/
def LaneCondition.priority (c : LaneCondition) : Nat :=
  match c with
  | .laneHalted => 1
  | .linkFault => 2
  | .switchFailed => 3
  | .noFallback => 4
  | .stackShed => 5
  | .fallbackDone => 6

/-- The byte of CLEAR ATTENTION that holds a per-lane condition (R182). -/
def FlagBytes.laneByte (f : FlagBytes) (c : LaneCondition) : Byte :=
  match c with
  | .laneHalted => f.laneHalted
  | .linkFault => f.linkFault
  | .switchFailed => f.switchFailed
  | .noFallback => f.noFallback
  | .stackShed => f.stackShed
  | .fallbackDone => f.fallbackDone

/-- No set bit names a lane out of range or a derived or unknown condition (R178, R182). -/
def FlagBytes.valid (f : FlagBytes) : Bool :=
  LaneCondition.all.all (fun c => (f.laneByte c).toNat < 8) && decide (f.part.toNat < 4)

end Sys2Proof

namespace Sys2Proof.Machine

open Sys2Proof

def LaneFlags.get (f : LaneFlags) (c : LaneCondition) : Bool :=
  match c with
  | .laneHalted => f.laneHalted
  | .linkFault => f.linkFault
  | .switchFailed => f.switchFailed
  | .noFallback => f.noFallback
  | .stackShed => f.stackShed
  | .fallbackDone => f.fallbackDone

def LaneFlags.put (f : LaneFlags) (c : LaneCondition) (b : Bool) : LaneFlags :=
  match c with
  | .laneHalted => { f with laneHalted := b }
  | .linkFault => { f with linkFault := b }
  | .switchFailed => { f with switchFailed := b }
  | .noFallback => { f with noFallback := b }
  | .stackShed => { f with stackShed := b }
  | .fallbackDone => { f with fallbackDone := b }

/-- A stored flag of Table 10-5. -/
def Flags.get (f : Flags) (x : Flag) : Bool :=
  match x with
  | .lane c l => (f.lanes.get l).get c
  | .tableFull => f.tableFull
  | .cadenceChange => f.cadenceChange

def Flags.put (f : Flags) (x : Flag) (b : Bool) : Flags :=
  match x with
  | .lane c l => { f with lanes := f.lanes.set l ((f.lanes.get l).put c b) }
  | .tableFull => { f with tableFull := b }
  | .cadenceChange => { f with cadenceChange := b }

/-- Some lane's flag of a per-lane condition is set (R176). -/
def Flags.anyLane (f : Flags) (c : LaneCondition) : Bool :=
  Lane.all.any fun l => (f.lanes.get l).get c

/-- The lowest-numbered lane whose flag of the condition is set (R177). -/
def Flags.firstLane (f : Flags) (c : LaneCondition) : Option Lane :=
  Lane.all.find? fun l => (f.lanes.get l).get c

/-- The condition of a priority number is pending: a flag of it is set, or its set is non-empty (R176, Table 10-5). -/
def State.pendingCondition (s : State) (priority : Nat) : Bool :=
  match priority with
  | 1 => s.flags.anyLane .laneHalted
  | 2 => s.flags.anyLane .linkFault
  | 3 => s.flags.anyLane .switchFailed
  | 4 => s.flags.anyLane .noFallback
  | 5 => s.flags.anyLane .stackShed
  | 6 => s.flags.anyLane .fallbackDone
  | 7 => s.flags.tableFull
  | 8 => s.flags.cadenceChange
  | 9 => s.changed != 0
  | 10 => s.advised != 0
  | _ => false

/-- The condition's ATTENTION_MASK is masked (R176). -/
def State.masked (s : State) (priority : Nat) : Bool :=
  s.params.attentionMask[priority - 1]?.getD false

/-- The unmasked pending condition of smallest priority number (R177). -/
def State.highestPending (s : State) : Option Nat :=
  [1, 2, 3, 4, 5, 6, 7, 8, 9, 10].find? fun p => s.pendingCondition p && !s.masked p

/-- ATTN is driven low while any condition is pending and unmasked, and released otherwise (R176). -/
def State.attnLow (s : State) : Bool := s.highestPending.isSome

/-- The lane of the highest pending condition, for a per-lane one (R177). -/
def State.highestLane (s : State) : Option Lane :=
  match s.highestPending with
  | some 1 => s.flags.firstLane .laneHalted
  | some 2 => s.flags.firstLane .linkFault
  | some 3 => s.flags.firstLane .switchFailed
  | some 4 => s.flags.firstLane .noFallback
  | some 5 => s.flags.firstLane .stackShed
  | some 6 => s.flags.firstLane .fallbackDone
  | _ => none

/-- A byte whose bit n is lane n's value (R182); the bits of no lane are 0 (log entry 8). -/
def laneBits (f : Lane → Bool) : Byte :=
  BitVec.ofBoolListBE [false, false, false, false, false, f .l2, f .l1, f .l0]

/-- The seven flag bytes (R182). -/
def State.flagBytes (s : State) : List Byte :=
  LaneCondition.all.map (fun c => laneBits fun l => (s.flags.lanes.get l).get c) ++
    [BitVec.ofBoolListBE [false, false, false, false, s.advised != 0, s.changed != 0,
      s.flags.cadenceChange, s.flags.tableFull]]

/-- The lane summary: a lane's bit is set when any of its six per-lane flags is set, masked or not (R177). -/
def State.laneSummary (s : State) : Byte :=
  laneBits fun l => LaneCondition.all.any fun c => (s.flags.lanes.get l).get c

/-- One lane's flags after the bits named are cleared (R178). -/
def LaneFlags.cleared (f : LaneFlags) (b : FlagBytes) (l : Lane) : LaneFlags where
  laneHalted := f.laneHalted && !b.laneHalted.getLsbD l.toNat
  linkFault := f.linkFault && !b.linkFault.getLsbD l.toNat
  switchFailed := f.switchFailed && !b.switchFailed.getLsbD l.toNat
  noFallback := f.noFallback && !b.noFallback.getLsbD l.toNat
  stackShed := f.stackShed && !b.stackShed.getLsbD l.toNat
  fallbackDone := f.fallbackDone && !b.fallbackDone.getLsbD l.toNat

/-- Every flag named is cleared, whether it was set or not (R178). -/
def Flags.cleared (f : Flags) (b : FlagBytes) : Flags where
  lanes := ⟨f.lanes.l0.cleared b .l0, f.lanes.l1.cleared b .l1, f.lanes.l2.cleared b .l2⟩
  tableFull := f.tableFull && !b.part.getLsbD 0
  cadenceChange := f.cadenceChange && !b.part.getLsbD 1

end Sys2Proof.Machine
end

