-- ==== Sys2Proof/Machine/Time.lean ====
section
/-! DEFINITION. Air time, windows, the circle of a cadence period and deadlines (R7 to R10). -/

namespace Sys2Proof.Machine

open Sys2Proof

/-! ## Air-time comparison (R7) -/

/-- A is before B when (B − A) mod 2^32 lies in 1 to 2^31 − 1 (R7). -/
def before (a b : AirTime) : Bool :=
  decide (0 < (b - a).toNat) && decide ((b - a).toNat < 2 ^ 31)

/-- B is at or after A (R7). -/
def atOrAfter (b a : AirTime) : Bool := b == a || before a b

/-- "The later of A and B": B if A is before B, and A otherwise (R7). -/
def laterOf (a b : AirTime) : AirTime := if before a b then b else a

/-- The signed difference from A to B (R7). -/
def signedDiff (a b : AirTime) : Int := (b - a).toInt

/-- An air time moved on by a count of microseconds. -/
def after (t : AirTime) (d : Nat) : AirTime := t + BitVec.ofNat 32 d

/-! ## Windows (R8) -/

/-- The half-open interval [start, start + length) (R8). -/
structure Window where
  start : AirTime
  length : Nat
  deriving DecidableEq, Repr

/-- A time lies in a window (R8). -/
def Window.contains (w : Window) (t : AirTime) : Bool :=
  decide ((t - w.start).toNat < w.length)

/-- Two windows intersect (R8). -/
def Window.intersects (v w : Window) : Bool :=
  decide (0 < v.length) && decide (0 < w.length) && (v.contains w.start || w.contains v.start)

/-- A window guarded by x (R8). -/
def Window.guarded (w : Window) (x : Nat) : Window :=
  ⟨w.start - BitVec.ofNat 32 x, w.length + 2 * x⟩

/-- The end of a window (R8). -/
def Window.finish (w : Window) : AirTime := after w.start w.length

/-! ## The circle of a cadence period (R9) -/

/-- A start reduced modulo P into 0 to P − 1, negative values upward (R9). -/
def onCircle (p : Nat) (a : Int) : Nat := (a % (p : Int)).toNat

/-- The shortest path from a to b modulo P, as a signed step (R9). -/
def shortestStep (p : Nat) (a b : Int) : Int :=
  let f : Int := (b - a) % (p : Int)
  if f ≤ (p : Int) / 2 then f else f - (p : Int)

/-- A circular interval: a start, which may be any integer, and a length (R9). -/
structure Arc where
  start : Int
  length : Nat
  deriving DecidableEq, Repr

/-- The point x of the circle modulo P is covered by the interval (R9). -/
def Arc.covers (p : Nat) (c : Arc) (x : Nat) : Bool :=
  decide (onCircle p ((x : Int) - c.start) < c.length)

/-- Some copy, one period apart from the next, of the interval a meets some copy of the interval b (R8, R28). -/
def Arc.meets (p : Nat) (a b : Arc) : Bool :=
  decide (0 < a.length) && decide (0 < b.length) &&
    (decide (onCircle p (b.start - a.start) < a.length) ||
      decide (onCircle p (a.start - b.start) < b.length))

/-- The interval cut at the top of the circle into pieces [from, to) of 0 to P. -/
def Arc.pieces (p : Nat) (c : Arc) : List (Nat × Nat) :=
  if p ≤ c.length then [(0, p)]
  else
    let a := onCircle p c.start
    if a + c.length ≤ p then [(a, a + c.length)] else [(a, p), (0, a + c.length - p)]

/-- Insertion by the start of the piece. -/
def insertPiece (x : Nat × Nat) : List (Nat × Nat) → List (Nat × Nat)
  | [] => [x]
  | y :: ys => if x.1 ≤ y.1 then x :: y :: ys else y :: insertPiece x ys

def sortPieces : List (Nat × Nat) → List (Nat × Nat)
  | [] => []
  | x :: xs => insertPiece x (sortPieces xs)

/-- The points covered by pieces in ascending order of their starts, beyond the point reached so far. -/
def sweepPieces (reach : Nat) : List (Nat × Nat) → Nat
  | [] => 0
  | (a, b) :: rest => (b - max a reach) + sweepPieces (max reach b) rest

/-- The length of the union modulo P of a collection of circular intervals (R9). -/
def unionLength (p : Nat) (arcs : List Arc) : Nat :=
  sweepPieces 0 (sortPieces (arcs.flatMap (Arc.pieces p)))

/-! ## Deadlines (R10) -/

/-- The air-time counter has reached the deadline of a running timer (R10). -/
def reached (now : AirTime) (deadline : Option AirTime) : Bool :=
  match deadline with
  | some d => atOrAfter now d
  | none => false

/-! ## Whole-number arithmetic (R12) -/

/-- A division rounded up (R12). -/
def ceilDiv (a b : Nat) : Nat := (a + b - 1) / b

/-- A division rounded to the nearest integer with halves rounded up (R18). -/
def roundDiv (a b : Nat) : Nat := (2 * a + b) / (2 * b)

/-- A value brought into a range. -/
def clampInt (lo hi : Nat) (x : Int) : Nat :=
  if x < (lo : Int) then lo else if (hi : Int) < x then hi else x.toNat

/-- A signed difference divided and truncated toward zero (R12). -/
def part (x : Int) (d : Nat) : Int := x.tdiv (d : Int)

end Sys2Proof.Machine
end

