-- ==== Sys2Proof/Machine/Ops.lean ====
section
/-! DEFINITION. The operations every family shares: one home for each write of a lane's or a slot's state, handing
work to another block, the outbound queue and the link-fault latch, the inbound holder, one control-port transaction,
and what the blocks read of the tracker and the table. -/

namespace Sys2Proof.Machine

open Sys2Proof

/-- The answer of a step. -/
abbrev Result := Host.Outcome State Fault Refusal

/-- The block that takes a piece of handed work. -/
def Handed.receiver (h : Handed) : Block :=
  match h with
  | .counterClaim _ _ => .stb
  | .riseReport _ _ => .ctk
  | .anchorMissReport _ => .ctk
  | .cadenceStateNotice => .pls
  | .changeNotice _ => .pls
  | .guardChangeNotice _ => .pls
  | .modeNotice => .pls
  | .drainNotice _ => .pls
  | .steeringRequest _ => .pls
  | .steeringResult _ => .stb
  | .attentionSetRequest _ => .cpa

/-- The event by which the receiver takes it. -/
def Handed.toInstr (h : Handed) : Instr :=
  match h with
  | .counterClaim a r => .counterClaim a r
  | .riseReport k t => .riseReport k t
  | .anchorMissReport k => .anchorMissReport k
  | .cadenceStateNotice => .cadenceStateNotice
  | .changeNotice k => .changeNotice k
  | .guardChangeNotice l => .guardChangeNotice l
  | .modeNotice => .modeNotice
  | .drainNotice l => .drainNotice l
  | .steeringRequest r => .steeringRequest r
  | .steeringResult r => .steeringResult r
  | .attentionSetRequest f => .attentionSetRequest f

namespace State

/-! ## One home for each lane and slot -/

def setPlan (s : State) (l : Lane) (p : PlanLane) : State := { s with plans := s.plans.set l p }

def setGrant (s : State) (l : Lane) (g : GrantLane) : State := { s with grants := s.grants.set l g }

def setLink (s : State) (l : Lane) (k : LinkLane) : State := { s with links := s.links.set l k }

def setTracker (s : State) (t : Tracker) : State := { s with tracker := t }

def setSlot (s : State) (k : Slot) (r : Option Interferer) : State := { s with table := s.table.set k r }

def setStation (s : State) (k : StationSlot) (r : Option Station) : State := { s with stations := s.stations.set k r }

def setAdvised (s : State) (a : BitVec 64) : State := { s with advised := a }

/-! ## Handing work between blocks (R56, R149, R174, R176) -/

/-- The block has been handed a soft reset and has not taken it (R174). -/
def resetting (s : State) (b : Block) : Bool := s.resets.contains b

/-- Work handed by a block that has not taken its soft reset reaches no block that has (R174: it is discarded without
effect when its receiver takes it). -/
def crossesReset (s : State) (src dst : Block) : Bool := s.resetting src && !s.resetting dst

/-- One block hands another a piece of work, which its receiver takes as an event of its own. -/
def hand (s : State) (src : Block) (h : Handed) : State :=
  if s.crossesReset src h.receiver then s else { s with handed := s.handed ++ [h] }

/-- A set request for an attention flag (R176). -/
def request (s : State) (src : Block) (f : Flag) : State := s.hand src (.attentionSetRequest f)

/-- The receiver takes a piece of handed work: it is used up. -/
def taking (s : State) (h : Handed) : State := { s with handed := s.handed.erase h }

/-! ## The links (R158, R159, R163) -/

/-- The latch is set, with LINK_FAULT attention; setting a latch already set changes nothing (R158). -/
def faultLink (s : State) (l : Lane) : State :=
  let k := s.links.get l
  if k.latch then s
  else (s.setLink l { k with latch := true }).request .lli (.lane .linkFault l)

/-- A block hands a message to the tail of a lane's outbound queue; a full queue discards it and sets the latch (R163). -/
def sendOut (s : State) (src : Block) (l : Lane) (m : OutMsg) : State :=
  let k := s.links.get l
  if s.crossesReset src .lli then s
  else if k.outbound.length < Config.outboundDepth then s.setLink l { k with outbound := k.outbound ++ [m] }
  else s.faultLink l

/-- HOLD is driven while holdoff is ON and the holder is occupied (R159, R160). -/
def hold (s : State) (l : Lane) : Bool :=
  s.params.holdoff.get l && (s.links.get l).holder.isSome

/-- The lane's holder holds a message of the kind. -/
def holds (s : State) (l : Lane) (k : InKind) : Bool :=
  match (s.links.get l).holder with
  | some m => m.kind == k
  | none => false

def emptyHolder (s : State) (l : Lane) : State :=
  s.setLink l { s.links.get l with holder := none }

/-- The owner takes the lane's held message, which leaves the holder empty (R161): the message's body, or none for a
message that entered before the links took a soft reset the owner has taken (R174). -/
def heldBody (s : State) (owner : Block) (l : Lane) : Option (List Byte) :=
  if s.crossesReset .lli owner then none else (s.links.get l).holder.map (·.body)

/-! ## What the blocks read of the tracker and the table -/

end State

/-- The tracker is predicting while LOCKED or HOLDOVER (R13). -/
def Tracker.predicting (t : Tracker) : Bool :=
  match t.state with
  | .free => false
  | .acquiring => false
  | .locked => true
  | .holdover => true

/-- The pair that defines the predicted bursts (R13, R28). -/
structure Prediction where
  reference : AirTime
  period : Nat
  deriving DecidableEq, Repr

/-- The prediction, while the tracker is predicting. -/
def Tracker.prediction (t : Tracker) : Option Prediction :=
  if t.predicting then t.reference.map fun r => ⟨r, t.period⟩ else none

/-- The observed phase of a time: the signed difference from R, reduced modulo P (R28). -/
def Prediction.phaseOf (p : Prediction) (t : AirTime) : Nat :=
  onCircle p.period (signedDiff p.reference t)

/-- Records in CONFIRMED, FADING or PINNED are counting records (R34). -/
def Interferer.counting (r : Interferer) : Bool :=
  match r.life with
  | .tentative => false
  | .confirmed => true
  | .fading => true
  | .pinned => true

def Interferer.isCadenced (r : Interferer) : Bool :=
  match r.emission with
  | .cadenced _ _ => true
  | .steady _ => false
  | .sporadic _ => false

/-- The phase a record carries, if any. -/
def Interferer.phase (r : Interferer) : Option Nat :=
  match r.emission with
  | .cadenced _ p => p
  | .steady _ => none
  | .sporadic _ => none

/-- The circular on-interval of a record with a phase, for guard g (R28). -/
def Interferer.onArc (r : Interferer) (g : Nat) : Option Arc :=
  match r.emission with
  | .cadenced o (some φ) => some ⟨(φ : Int) - g, o + 2 * g⟩
  | .cadenced _ none => none
  | .steady _ => none
  | .sporadic _ => none

namespace State

/-- The records of the table, in ascending slot order. -/
def records (s : State) : List Interferer := s.table.toList.filterMap id

/-- The counting records whose span overlaps a span (R3, R34). -/
def countingOver (s : State) (c : Span) : List Interferer :=
  s.records.filter fun r => r.counting && r.span.overlaps c

/-- The blocking intervals of a span for a guard: the guarded on-windows of every counting CADENCED record that has a
phase and overlaps it (R131). -/
def blockingArcs (s : State) (c : Span) (g : Nat) : List Arc :=
  (s.countingOver c).filterMap (·.onArc g)

/-- The number of non-EMPTY slots (R54, R175). -/
def occupied (s : State) : Nat := s.records.length

/-- The lowest-numbered EMPTY slot (R36, R47). -/
def emptySlot (s : State) : Option Slot :=
  (List.finRange 32).find? fun k => (s.table[k]).isNone

end State

/-! ## One control-port transaction (R167 to R170) -/

/-- An owner's refusal: the status that failed, an empty body, and no state changed (R170). -/
def refuse (s : State) (status : Status) : State × Response := (s, ⟨status, []⟩)

/-- A transaction begun while READY is low: NOT_READY with an empty body on SDO, and nothing else (R168). -/
def State.carryNotReady (s : State) (clocks : Nat) : State :=
  { s with sdo := (Response.mk .notReady []).shiftOut clocks }

/-- The command in execution completes: its answer becomes the pending response and READY rises (R168). -/
def State.completed (s : State) (answer : Response) : State :=
  { s with response := answer, answer := none, ready := true }

/-- The part as a transaction begun with READY high finds it: a command still in execution has completed. None while a
reset keeps READY low (R168, R174; log entry 17). -/
def State.port? (s : State) : Option State :=
  if s.ready then some s else s.answer.map s.completed

/-- The SCK clocks of a transaction: those of its command frame, or more when the host processor gives more (R167). -/
def State.clocksOf (s : State) (c : Instr) : Nat := max c.frameClocks s.clocks

/-- A transaction has carried the pending response and its command is in execution: READY is low, and the owner's answer
waits to become the pending response (R167, R168). -/
def State.answering (s : State) (c : Instr) (answer : Response) : State :=
  { s with sdo := s.response.shiftOut (s.clocksOf c), ready := false, answer := some answer }

/-- A transaction whose frame is whole and passes its check: SDO carries the pending response, and the owner executes the
command as one event (R167, R168). While a reset keeps READY low the command is discarded. -/
def transact (c : Instr) (s : State) (owner : State → State × Response) : Result :=
  match s.port? with
  | some s => .next ((owner s).1.answering c (owner s).2)
  | none => .next (s.carryNotReady (s.clocksOf c))

/-- An event of a block; while RESET_N is low the part is held at its power-on values and takes none (R6, R165, R174). -/
def event (s : State) (effect : State → State) : Result :=
  .next (if s.resetN then effect s else s)

/-- A lane number outside 0 to 2 is refused with BAD_ARGUMENT before any other check (section 6.6, R171). -/
def withLane (lane : Byte) (s : State) (f : Lane → State × Response) : State × Response :=
  match Lane.ofByte? lane with
  | some l => f l
  | none => refuse s .badArgument

end Sys2Proof.Machine
end

