-- ==== Sys2Proof/Machine/Claims.lean ====
section
/-! DEFINITION. Claims on the Interferer Table: what a change of a record gives notice of (R55), how a claim completes
(R56, R57), and the tracker's part in one, the anchor notice and the removal of phases (R26, R27, R31). -/

namespace Sys2Proof.Machine

open Sys2Proof

/-- A slot as a member of a set of slots. -/
def slotBit (k : Slot) : BitVec 32 := 1#32 <<< k.val

/-- The slots a claim gives notice of, and those it enters in the changed-interferer set (R55). -/
structure Marks where
  noticed : BitVec 32
  entered : BitVec 32
  deriving DecidableEq, Repr

def Marks.none : Marks := ⟨0, 0⟩

/-- A slot with a notice and an entry: a record created, removed, or changed in life state (Table 3-4). -/
def Marks.both (k : Slot) : Marks := ⟨slotBit k, slotBit k⟩

def Marks.join (a b : Marks) : Marks := ⟨a.noticed ||| b.noticed, a.entered ||| b.entered⟩

/-- An emission without its phase: kind, and duty or on-duration. -/
def Emission.withoutPhase (e : Emission) : Emission :=
  match e with
  | .cadenced o _ => .cadenced o none
  | .steady d => .steady d
  | .sporadic d => .sporadic d

/-- The marks of a slot whose record changed from one value to another and stayed in the table (Table 3-4). "While the
record is counting" is judged after the change of life state. -/
def changeMarks (k : Slot) (old new : Interferer) : Marks :=
  if old.life ≠ new.life then .both k
  else if !new.counting then .none
  else if old.span ≠ new.span ∨ old.emission.withoutPhase ≠ new.emission.withoutPhase ∨
      old.phase.isSome ≠ new.phase.isSome then .both k
  else if old.phase ≠ new.phase then ⟨slotBit k, 0⟩
  else .none

namespace State

/-- The notices of a claim, one for each slot that gave one, in slot order (R56). -/
def handNotices (s : State) (noticed : BitVec 32) : State :=
  (List.finRange 32).foldl
    (fun s k => if noticed.getLsbD k.val then s.hand .ift (.changeNotice k) else s) s

/-- The claim is complete: its slots enter the changed-interferer set, and its notices leave the table (R56, R57). -/
def completeClaim (s : State) (m : Marks) : State :=
  let s := if s.crossesReset .ift .cpa then s else { s with changed := s.changed ||| m.entered }
  s.handNotices m.noticed

/-- Every change of cadence state notifies the Plan Stacks and sets CADENCE_CHANGE (R29). -/
def notifyCadence (s : State) : State :=
  (s.hand .ctk .cadenceStateNotice).request .ctk .cadenceChange

/-- The marks of a removal of all phases: each counting record that had one (R45). -/
def phaseMarks (s : State) : Marks :=
  (List.finRange 32).foldl
    (fun m k =>
      match s.table[k] with
      | some r => if r.counting && r.phase.isSome then m.join (.both k) else m
      | none => m) .none

/-- The phase of every CADENCED record is removed (R27, R45). The removal is one event with the change of cadence state, so
it acts on a table that has taken a soft reset the tracker has not as well (log entry 20). -/
def removePhases (s : State) : State :=
  { s with table := Vector.ofFn fun k : Slot =>
      (s.table[k]).map fun r => { r with emission := r.emission.withoutPhase } }

end State

/-- The tracker's values on entry to FREE; P keeps its value (R27). -/
def Tracker.freed (t : Tracker) : Tracker where
  state := .free
  period := t.period
  reference := none
  candidate := none
  consistent := 0
  outliers := 0
  anchor := none
  anchorOffset := 0
  anchorMisses := 0
  holdover := none

namespace State

/-- Entry to FREE with the removal of all phases, as one part of a claim, with the marks it adds (R27). -/
def enterFree (s : State) : State × Marks :=
  ((s.removePhases.setTracker s.tracker.freed).notifyCadence, s.phaseMarks)

/-- The lowest-numbered slot holding a CADENCED record, in any life state (R26). -/
def lowestCadenced (s : State) : Option Slot :=
  (List.finRange 32).find? fun k => (s.table[k]).any (·.isCadenced)

/-- The phase of a slot's record, if it has one. -/
def phaseAt (s : State) (k : Slot) : Option Nat := (s.table[k]).bind (·.phase)

/-- The tracker takes the notice that its anchor has left the table, as the last part of the claim (R26, R31), whichever of
the two has taken a soft reset (log entry 20). The offset is the new anchor's phase as stored, which may be at or above P
(R33; log entry 19). -/
def anchorNotice (s : State) : State × Marks :=
  match s.lowestCadenced with
  | some k =>
    (s.setTracker { s.tracker with
        anchor := some k
        outliers := 0
        anchorMisses := 0
        anchorOffset := if s.tracker.predicting then (s.phaseAt k).getD 0 else 0 }, .none)
  | none => s.enterFree

/-- The end of a claim: the anchor notice if the anchor's record left the table, then completion (R31, R61). -/
def finishClaim (s : State) (anchorGone : Bool) (m : Marks) : State :=
  if anchorGone then
    let r := s.anchorNotice
    r.1.completeClaim (m.join r.2)
  else s.completeClaim m

end State

end Sys2Proof.Machine
end

