-- ==== Sys2Proof/Machine/Cadence.lean ====
section
/-! DEFINITION. The Cadence Tracker's events (R14 to R25): rise reports, anchor miss reports and the holdover timer. -/

namespace Sys2Proof.Machine

open Sys2Proof

/-- The allowed period range (Table 2-2, R14). -/
def Mains.range (m : Mains) : Nat × Nat :=
  match m with
  | .any => (15000, 22000)
  | .hz50 => (19400, 20600)
  | .hz60 => (16167, 17167)

def Mains.allows (m : Mains) (x : Int) : Bool :=
  decide ((m.range.1 : Int) ≤ x) && decide (x ≤ (m.range.2 : Int))

/-- A period or candidate clamped into the allowed range (R14, R18, R21). -/
def Mains.clamp (m : Mains) (x : Int) : Nat := clampInt m.range.1 m.range.2 x

/-- A value lies between −EDGE_TOL and +EDGE_TOL inclusive. -/
def within (tol : Nat) (x : Int) : Bool := decide (-(tol : Int) ≤ x) && decide (x ≤ (tol : Int))

/-- The multiple from 1 to 8 of the candidate that lies nearest to Δ, the smaller of two equally near (R18). -/
def nearestMultiple (c : Nat) (d : Int) : Nat :=
  [2, 3, 4, 5, 6, 7, 8].foldl
    (fun best k =>
      if (d - ((k * c : Nat) : Int)).natAbs < (d - ((best * c : Nat) : Int)).natAbs then k else best) 1

/-- The candidate after a consistent rise: the running mean of the per-period intervals, each rounded to the nearest
integer with halves rounded up, clamped into the allowed range (R18). -/
def refinedCandidate (m : Mains) (c n k : Nat) (d : Int) : Nat :=
  let per : Int := (2 * d + k) / (2 * k)
  m.clamp ((2 * ((c * n : Nat) + per) + (n + 1)) / (2 * (n + 1)))

/-- The error e of a rise time: the shortest step from the nearest predicted anchor rise (section 2.5). An offset at or above
P gives the error of its remainder (log entry 19). -/
def Tracker.riseError (t : Tracker) (reference rise : AirTime) : Int :=
  shortestStep t.period 0 (onCircle t.period (signedDiff (after reference t.anchorOffset) rise))

namespace State

/-- The holdover timer's deadline when started or restarted now (R10, R20, R21). -/
def holdoverDeadline (s : State) : AirTime := after s.airTime (s.params.holdoverLimit * 1000000)

/-- R16: a rise report taken in FREE selects its record as the anchor and starts acquisition. -/
def startAcquisition (s : State) (slot : Slot) (rise : AirTime) : State :=
  (s.setTracker { s.tracker with
    state := .acquiring
    anchor := some slot
    anchorOffset := 0
    reference := some rise
    candidate := none
    consistent := 0
    outliers := 0
    anchorMisses := 0 }).notifyCadence

/-- R17: an anchor rise in ACQUIRING with no candidate. -/
def riseWithoutCandidate (s : State) (reference rise : AirTime) : State :=
  let d := signedDiff reference rise
  if within s.params.edgeTol d then s
  else if s.params.mainsNominal.allows d then
    s.setTracker { s.tracker with
      candidate := some d.toNat, consistent := 1, outliers := 0, reference := some rise }
  else s.setTracker { s.tracker with reference := some rise }

/-- R20: the test for lock after a consistent rise, with the candidate and the count as the rise left them. -/
def testLock (s : State) (candidate : Nat) (rise : AirTime) : State :=
  if s.params.lockCount ≤ s.tracker.consistent then
    (s.setTracker { s.tracker with
      state := .locked
      period := candidate
      reference := some rise
      candidate := none
      consistent := 0
      outliers := 0
      anchorMisses := 0
      anchorOffset := 0
      holdover := some s.holdoverDeadline }).notifyCadence
  else s

/-- R18 and R19: an anchor rise judged against a candidate inside the allowed range. -/
def riseWithCandidate (s : State) (reference : AirTime) (c : Nat) (rise : AirTime) : State :=
  let d := signedDiff reference rise
  let k := nearestMultiple c d
  if within s.params.edgeTol d then s
  else if within s.params.edgeTol (d - ((k * c : Nat) : Int)) then
    let c' := refinedCandidate s.params.mainsNominal c s.tracker.consistent k d
    (s.setTracker { s.tracker with
      candidate := some c'
      consistent := s.tracker.consistent + 1
      outliers := 0
      reference := some rise }).testLock c' rise
  else if s.tracker.outliers + 1 < 3 then
    s.setTracker { s.tracker with outliers := s.tracker.outliers + 1 }
  else
    s.setTracker { s.tracker with
      candidate := none, consistent := 0, outliers := 0, reference := some rise }

/-- An anchor rise in ACQUIRING (R17 to R20). A candidate that a change of MAINS_NOMINAL has left outside the allowed
range is dropped first (R18). -/
def riseAcquiring (s : State) (reference rise : AirTime) : State :=
  match s.tracker.candidate with
  | none => s.riseWithoutCandidate reference rise
  | some c =>
    if s.params.mainsNominal.allows c then s.riseWithCandidate reference c rise
    else
      (s.setTracker { s.tracker with candidate := none, consistent := 0, outliers := 0 }).riseWithoutCandidate
        reference rise

/-- R21: the updates of a consistent rise, whose error is e; the state becomes or stays LOCKED. The offset is taken as it
stands, at or above P as well (log entry 19). -/
def refineLock (s : State) (rise : AirTime) (e : Int) : State :=
  s.setTracker { s.tracker with
    state := .locked
    reference := some (rise - BitVec.ofInt 32 e - BitVec.ofNat 32 s.tracker.anchorOffset + BitVec.ofInt 32 (part e 4))
    period := s.params.mainsNominal.clamp (s.tracker.period + part e 16)
    outliers := 0
    anchorMisses := 0
    holdover := some s.holdoverDeadline }

/-- R22: the fourth outlier returns the tracker to ACQUIRING, and the phases are removed as one claim with it (R27). -/
def loseLock (s : State) (rise : AirTime) : State :=
  ((s.removePhases.setTracker { s.tracker with
    state := .acquiring
    candidate := some s.tracker.period
    consistent := 1
    outliers := 0
    reference := some rise
    anchorMisses := 0
    holdover := none }).notifyCadence).completeClaim s.phaseMarks

/-- An anchor rise in LOCKED (R21, R22). -/
def riseLocked (s : State) (reference rise : AirTime) : State :=
  let e := s.tracker.riseError reference rise
  if within s.params.edgeTol e then s.refineLock rise e
  else if s.tracker.outliers + 1 < 4 then
    s.setTracker { s.tracker with outliers := s.tracker.outliers + 1 }
  else s.loseLock rise

/-- An anchor rise in HOLDOVER (R24). -/
def riseHoldover (s : State) (reference rise : AirTime) : State :=
  let e := s.tracker.riseError reference rise
  if within s.params.edgeTol e then (s.refineLock rise e).notifyCadence else s

/-- The tracker takes a rise report, checked against its own state (R15). Outside FREE the reference is present (R13). -/
def takeRise (s : State) (slot : Slot) (rise : AirTime) : State :=
  match s.tracker.state with
  | .free => if (s.table[slot]).any (·.isCadenced) then s.startAcquisition slot rise else s
  | .acquiring =>
    match s.tracker.reference with
    | some r => if s.tracker.anchor = some slot then s.riseAcquiring r rise else s
    | none => s
  | .locked =>
    match s.tracker.reference with
    | some r => if s.tracker.anchor = some slot then s.riseLocked r rise else s
    | none => s
  | .holdover =>
    match s.tracker.reference with
    | some r => if s.tracker.anchor = some slot then s.riseHoldover r rise else s
    | none => s

/-- The tracker takes an anchor miss report (R15, R23). -/
def takeMiss (s : State) (slot : Slot) : State :=
  match s.tracker.state with
  | .free => s
  | .acquiring => s
  | .holdover => s
  | .locked =>
    if s.tracker.anchor = some slot then
      if s.tracker.anchorMisses + 1 < 8 then
        s.setTracker { s.tracker with anchorMisses := s.tracker.anchorMisses + 1 }
      else (s.setTracker { s.tracker with state := .holdover, anchorMisses := 0 }).notifyCadence
    else s

/-- The holdover timer expires in LOCKED or HOLDOVER: FREE, with the removal of phases as one claim (R25, R27). -/
def expireHoldover (s : State) : State :=
  if s.tracker.predicting && reached s.airTime s.tracker.holdover then
    let r := s.enterFree
    r.1.completeClaim r.2
  else s

end State

/-- RISE_REPORT (R15 to R22, R24). -/
def execRiseReport (slot : Slot) (rise : AirTime) (s : State) : Result :=
  event s fun s => (s.taking (.riseReport slot rise)).takeRise slot rise

/-- ANCHOR_MISS_REPORT (R15, R23). -/
def execAnchorMissReport (slot : Slot) (s : State) : Result :=
  event s fun s => (s.taking (.anchorMissReport slot)).takeMiss slot

/-- HOLDOVER_EXPIRY (R25). -/
def execHoldoverExpiry (s : State) : Result :=
  event s State.expireHoldover

end Sys2Proof.Machine
end

