-- ==== Sys2Proof/Machine/Closing.lean ====
section
/-! DEFINITION. Closing outstanding grants and moving a lane's edge guard (R143, R147 to R150). -/

namespace Sys2Proof.Machine

open Sys2Proof

namespace State

/-- The outstanding grant of a lane with the id, if it holds one (R144). -/
def findGrant (s : State) (l : Lane) (id : Byte) : Option Grant :=
  (s.grants.get l).outstanding.find? (·.id == id)

/-- A grant leaves its slot with its timer, and the lane's last closure names it (R143). -/
def removeGrant (s : State) (l : Lane) (id : Byte) (code : ClosingCode) (used : Option Nat) : State :=
  s.setGrant l { s.grants.get l with
    outstanding := (s.grants.get l).outstanding.eraseP (·.id == id)
    lastClosure := some ⟨id, code, used⟩ }

/-- The drain notice of a closure that leaves the lane with no outstanding grant (R105, R143). -/
def noticeDrain (s : State) (l : Lane) : State :=
  if (s.grants.get l).outstanding.isEmpty then s.hand .gre (.drainNotice l) else s

/-- The lane's edge guard takes a value, with a guard-change notice when the value is new (R149). -/
def moveGuard (s : State) (l : Lane) (g : Nat) : State :=
  if g = (s.grants.get l).edgeGuard then s
  else (s.setGrant l { s.grants.get l with edgeGuard := g }).hand .gre (.guardChangeNotice l)

def setOkRun (s : State) (l : Lane) (n : Nat) : State :=
  s.setGrant l { s.grants.get l with okRun := n }

/-- The Plan Stacks ask the Grant Engine to close all of the lane's grants with LANE_RESET. The grants close in the
order issued, so the last closure names the later one, and a lane with none keeps its last closure (R150). A request
handed by Plan Stacks that have yet to take a soft reset has no effect on a Grant Engine that has (R174). -/
def closeLane (s : State) (l : Lane) : State :=
  if s.crossesReset .pls .gre then s
  else
    match (s.grants.get l).outstanding.getLast? with
    | none => s
    | some x =>
      (s.setGrant l { s.grants.get l with
        outstanding := [], lastClosure := some ⟨x.id, .laneReset, none⟩ }).hand .gre (.drainNotice l)

/-- On LANE RESET and HELLO the edge guard is then set to GUARD_INITIAL and the OK run to 0 (R150). -/
def resetGuard (s : State) (l : Lane) : State :=
  if s.crossesReset .pls .gre then s else (s.setOkRun l 0).moveGuard l s.params.guardInitial

/-- A guard clamped into GUARD_FLOOR to GUARD_CEILING (R149, R172). -/
def clampGuard (s : State) (l : Lane) : State :=
  s.moveGuard l (min (max (s.grants.get l).edgeGuard s.params.guardFloor) s.params.guardCeiling)

end State

end Sys2Proof.Machine
end

