-- ==== Sys2Proof/Machine/Control.lean ====
section
/-! DEFINITION. The Control Port and Attention block (R167 to R179): failed, early and unknown transactions, parameters,
mode, status, attention, the changed-record sets and READ LANE. -/

namespace Sys2Proof.Machine

open Sys2Proof

/-! ## Parameters (Table 10-4, R172, R182) -/

/-- The parameters that hold one number in a range. -/
inductive Numeric where
  | lockCount | edgeTol | holdoverLimit | detectLevel | steadyFloor | matchTol | coverageLimit | confirmCount
  | fadeMisses | retireMisses | tentativeMisses | grantLead | guardFloor | guardCeiling | guardInitial | guardStep
  | guardRelaxRun | expiryMargin | strangerFloor | strainLosses | recoverRun | steerMargin | settleTime
  | switchCountdown | switchTimeout | switchRetries
  deriving DecidableEq, Repr

/-- The numeric parameters in Table 10-4's order, rows 2 to 27. -/
def Numeric.all : List Numeric :=
  [.lockCount, .edgeTol, .holdoverLimit, .detectLevel, .steadyFloor, .matchTol, .coverageLimit, .confirmCount,
    .fadeMisses, .retireMisses, .tentativeMisses, .grantLead, .guardFloor, .guardCeiling, .guardInitial, .guardStep,
    .guardRelaxRun, .expiryMargin, .strangerFloor, .strainLosses, .recoverRun, .steerMargin, .settleTime,
    .switchCountdown, .switchTimeout, .switchRetries]

/-- The ranges of Table 10-4, least and greatest; those given by other parameters are cross-conditions. -/
def Numeric.range (n : Numeric) : Nat × Nat :=
  match n with
  | .lockCount => (2, 8)
  | .edgeTol => (100, 2000)
  | .holdoverLimit => (1, 60)
  | .detectLevel => (3, 40)
  | .steadyFloor => (4, 48)
  | .matchTol => (200, 3000)
  | .coverageLimit => (4, 254)
  | .confirmCount => (2, 15)
  | .fadeMisses => (2, 64)
  | .retireMisses => (4, 255)
  | .tentativeMisses => (1, 16)
  | .grantLead => (20, 500)
  | .guardFloor => (0, 2000)
  | .guardCeiling => (100, 2000)
  | .guardInitial => (0, 2000)
  | .guardStep => (10, 200)
  | .guardRelaxRun => (8, 255)
  | .expiryMargin => (500, 20000)
  | .strangerFloor => (50, 2000)
  | .strainLosses => (2, 15)
  | .recoverRun => (2, 15)
  | .steerMargin => (1, 32)
  | .settleTime => (0, 30)
  | .switchCountdown => (0, 15)
  | .switchTimeout => (100, 10000)
  | .switchRetries => (0, 7)

/-- The value a numeric parameter holds. -/
def Params.numeric (p : Params) (n : Numeric) : Nat :=
  match n with
  | .lockCount => p.lockCount
  | .edgeTol => p.edgeTol
  | .holdoverLimit => p.holdoverLimit
  | .detectLevel => p.detectLevel
  | .steadyFloor => p.steadyFloor
  | .matchTol => p.matchTol
  | .coverageLimit => p.coverageLimit
  | .confirmCount => p.confirmCount
  | .fadeMisses => p.fadeMisses
  | .retireMisses => p.retireMisses
  | .tentativeMisses => p.tentativeMisses
  | .grantLead => p.grantLead
  | .guardFloor => p.guardFloor
  | .guardCeiling => p.guardCeiling
  | .guardInitial => p.guardInitial
  | .guardStep => p.guardStep
  | .guardRelaxRun => p.guardRelaxRun
  | .expiryMargin => p.expiryMargin
  | .strangerFloor => p.strangerFloor
  | .strainLosses => p.strainLosses
  | .recoverRun => p.recoverRun
  | .steerMargin => p.steerMargin
  | .settleTime => p.settleTime
  | .switchCountdown => p.switchCountdown
  | .switchTimeout => p.switchTimeout
  | .switchRetries => p.switchRetries

def Params.setNumeric (p : Params) (n : Numeric) (v : Nat) : Params :=
  match n with
  | .lockCount => { p with lockCount := v }
  | .edgeTol => { p with edgeTol := v }
  | .holdoverLimit => { p with holdoverLimit := v }
  | .detectLevel => { p with detectLevel := v }
  | .steadyFloor => { p with steadyFloor := v }
  | .matchTol => { p with matchTol := v }
  | .coverageLimit => { p with coverageLimit := v }
  | .confirmCount => { p with confirmCount := v }
  | .fadeMisses => { p with fadeMisses := v }
  | .retireMisses => { p with retireMisses := v }
  | .tentativeMisses => { p with tentativeMisses := v }
  | .grantLead => { p with grantLead := v }
  | .guardFloor => { p with guardFloor := v }
  | .guardCeiling => { p with guardCeiling := v }
  | .guardInitial => { p with guardInitial := v }
  | .guardStep => { p with guardStep := v }
  | .guardRelaxRun => { p with guardRelaxRun := v }
  | .expiryMargin => { p with expiryMargin := v }
  | .strangerFloor => { p with strangerFloor := v }
  | .strainLosses => { p with strainLosses := v }
  | .recoverRun => { p with recoverRun := v }
  | .steerMargin => { p with steerMargin := v }
  | .settleTime => { p with settleTime := v }
  | .switchCountdown => { p with switchCountdown := v }
  | .switchTimeout => { p with switchTimeout := v }
  | .switchRetries => { p with switchRetries := v }

/-- A parameter, with its lane for HOLDOFF and its condition's priority number less one for ATTENTION_MASK (R182). -/
inductive Param where
  | mains
  | numeric (n : Numeric)
  | overflowMask
  | underflowMask
  | holdoff (l : Lane)
  | attentionMask (i : Fin 10)
  deriving DecidableEq, Repr

/-- A parameter that takes no qualifier: any qualifier but 00h is refused (R182). -/
def unqualified (q : Byte) (p : Param) : Option Param := if q = 0 then some p else none

/-- A condition's priority number, 1 to 10, as an index of its mask. -/
def maskIndex? (q : Byte) : Option (Fin 10) :=
  if h : 1 ≤ q.toNat ∧ q.toNat ≤ 10 then some ⟨q.toNat - 1, by omega⟩ else none

/-- The parameter of a number and a qualifier: the row number of Table 10-4 (R182). -/
def Param.of? (number qualifier : Byte) : Option Param :=
  match number.toNat with
  | 0 => none
  | 1 => unqualified qualifier .mains
  | 28 => unqualified qualifier .overflowMask
  | 29 => unqualified qualifier .underflowMask
  | 30 => (Lane.ofByte? qualifier).map .holdoff
  | 31 => (maskIndex? qualifier).map .attentionMask
  | n => (Numeric.all[n - 2]?).bind fun k => unqualified qualifier (.numeric k)

def Mains.ofValue? (v : Nat) : Option Mains :=
  if v = 0 then some .any else if v = 50 then some .hz50 else if v = 60 then some .hz60 else none

def Mains.value (m : Mains) : Nat :=
  match m with
  | .any => 0
  | .hz50 => 50
  | .hz60 => 60

/-- A switch setting: 0 is unmasked or OFF, 1 is masked or ON (R182). -/
def flagOf? (v : Nat) : Option Bool :=
  if v = 0 then some false else if v = 1 then some true else none

/-- The cross-conditions of R172. -/
def Params.cross (p : Params) : Bool :=
  decide (p.fadeMisses < p.retireMisses) && decide (p.guardFloor ≤ p.guardInitial) &&
    decide (p.guardInitial ≤ p.guardCeiling)

/-- The parameters with a new value of one; none when the value is out of its range or would break a cross-condition
(R172). -/
def Params.set? (p : Params) (x : Param) (v : Nat) : Option Params :=
  match x with
  | .mains => (Mains.ofValue? v).map fun m => { p with mainsNominal := m }
  | .numeric n =>
    if n.range.1 ≤ v ∧ v ≤ n.range.2 ∧ (p.setNumeric n v).cross then some (p.setNumeric n v) else none
  | .overflowMask => (flagOf? v).map fun b => { p with overflowMask := b }
  | .underflowMask => (flagOf? v).map fun b => { p with underflowMask := b }
  | .holdoff l => (flagOf? v).map fun b => { p with holdoff := p.holdoff.set l b }
  | .attentionMask i => (flagOf? v).map fun b => { p with attentionMask := p.attentionMask.set i b }

/-- The value of a parameter as GET PARAMETER carries it (R182). -/
def Params.value (p : Params) (x : Param) : Nat :=
  match x with
  | .mains => p.mainsNominal.value
  | .numeric n => p.numeric n
  | .overflowMask => p.overflowMask.toNat
  | .underflowMask => p.underflowMask.toNat
  | .holdoff l => (p.holdoff.get l).toNat
  | .attentionMask i => (p.attentionMask[i]).toNat

/-- A new GUARD_FLOOR or GUARD_CEILING clamps each lane's edge guard (R149, R172). -/
def Param.clampsGuards (x : Param) : Bool := x == .numeric .guardFloor || x == .numeric .guardCeiling

/-- SET PARAMETER at the CPA (R172). HOLD and ATTN follow the stored values at once. -/
def setParameterOwner (number qualifier : Byte) (value : BitVec 32) (s : State) : State × Response :=
  match Param.of? number qualifier with
  | none => refuse s .badArgument
  | some x =>
    match s.params.set? x value.toNat with
    | none => refuse s .badArgument
    | some p =>
      let s := { s with params := p }
      (if x.clampsGuards then ((s.clampGuard .l0).clampGuard .l1).clampGuard .l2 else s, .done)

/-- GET PARAMETER at the CPA (R172). -/
def getParameterOwner (number qualifier : Byte) (s : State) : State × Response :=
  match Param.of? number qualifier with
  | none => refuse s .badArgument
  | some x => (s, ⟨.done, wordBytes (BitVec.ofNat 32 (s.params.value x))⟩)

/-! ## Mode, status, attention and sets (R173, R175 to R179) -/

def Mode.ofByte? (b : Byte) : Option Mode :=
  if b = 0 then some .run else if b = 1 then some .bypass else none

/-- SET MODE at the CPA: a change from BYPASS to RUN hands a mode notice (R173). -/
def setModeOwner (mode : Byte) (s : State) : State × Response :=
  match Mode.ofByte? mode with
  | none => refuse s .badArgument
  | some m =>
    let t := { s with mode := m }
    (if s.mode = .bypass ∧ m = .run then t.hand .cpa .modeNotice else t, .done)

/-- The body of STATUS (R175). -/
def statusBody (s : State) : List Byte :=
  [s.startCause.byte, s.mode.byte, s.tracker.state.byte] ++ natHalf s.tracker.period ++ [natByte s.occupied]

/-- The body of READ ATTENTION (R177, R182). -/
def attentionBody (s : State) : List Byte :=
  [natByte (s.highestPending.getD 0), optLaneByte s.highestLane] ++ s.flagBytes ++ [s.laneSummary]

/-- CLEAR ATTENTION at the CPA (R178). -/
def clearAttentionOwner (f : FlagBytes) (s : State) : State × Response :=
  if f.valid then ({ s with flags := s.flags.cleared f }, .done) else refuse s .badArgument

/-- The bytes of a set: slot n is bit n mod 8 of byte n div 8 (R183). -/
def setBytes {w : Nat} (x : BitVec w) (bytes : Nat) : List Byte :=
  (List.range bytes).map fun i => x.extractLsb' (8 * i) 8

/-- TAKE CHANGES at the CPA: both sets are returned and emptied (R179, R183). -/
def takeChangesOwner (s : State) : State × Response :=
  ({ s with changed := 0, advised := 0 }, ⟨.done, setBytes s.changed 4 ++ setBytes s.advised 8⟩)

/-! ## READ LANE (R153, R156, R171) -/

/-- The Plan Stacks' part: plan state, band, depth, and the top plan span, FFh FFh for an empty stack. -/
def lanePlanBytes (p : PlanLane) : List Byte :=
  [p.state.byte, p.band.byte, natByte p.stack.length] ++
    match p.stack.getLast? with
    | some e => e.plan.bytes
    | none => [0xFF, 0xFF]

/-- One outstanding grant in READ LANE (R153). -/
def grantBytes (g : Grant) : List Byte :=
  g.id :: wordBytes g.start ++ natHalf g.cap ++ g.span.bytes ++ g.cls.bytes ++ natHalf g.guard ++ [g.flags.byte] ++
    wordBytes g.expiry

/-- The last closure, behind its presence byte (R182). -/
def closureBytes (c : Option Closure) : List Byte :=
  match c with
  | some c => [1, c.id, c.code.byte] ++ optNatHalf c.used
  | none => [0]

/-- The Grant Engine's part (R153); the grants in the order issued, which the spec leaves open (log entry 8). -/
def laneGrantBytes (g : GrantLane) : List Byte :=
  natByte g.outstanding.length :: g.outstanding.flatMap grantBytes ++ natHalf g.edgeGuard ++ [natByte g.okRun] ++
    closureBytes g.lastClosure

/-- The Lane Link Interface's part (R156). -/
def laneLinkBytes (k : LinkLane) (holdoff : Bool) : List Byte :=
  [match k.holder with
    | some m => m.kind.byte
    | none => 0,
    natByte k.failures, mark k.latch, mark holdoff]

/-- READ LANE (R171). -/
def readLaneOwner (lane : Byte) (s : State) : State × Response :=
  withLane lane s fun l =>
    (s, ⟨.done, lanePlanBytes (s.plans.get l) ++ laneGrantBytes (s.grants.get l) ++
      laneLinkBytes (s.links.get l) (s.params.holdoff.get l)⟩)

/-! ## The commands and events -/

/-- ATTENTION_SET_REQUEST (R176). -/
def execAttentionSetRequest (f : Flag) (s : State) : Result :=
  event s fun s =>
    let s := s.taking (.attentionSetRequest f)
    { s with flags := s.flags.put f true }

/-- CHECK_FAILED: a frame cut short or failing its check. It is not executed and READY stays high (R169); begun while
READY is low it is discarded unchecked (R168). The bits on SDI are as many as the clocks. -/
def execCheckFailed (sdi : List Bool) (s : State) : Result :=
  match s.port? with
  | some s => .next { s with sdo := s.response.shiftOut sdi.length, response := ⟨.checkFailed, []⟩ }
  | none => .next (s.carryNotReady sdi.length)

/-- NOT_READY: a transaction begun while READY is low, during a command's execution or a reset (R168). With READY high there
is no such transaction. -/
def execNotReady (s : State) : Result := .next (if s.ready then s else s.carryNotReady s.clocks)

/-- UNKNOWN_COMMAND: a frame that passes its check and spells no command (R169, R182). -/
def execUnknownCommand (code : Byte) (body : List Byte) (s : State) : Result :=
  transact (.unknownCommand code body) s fun s => refuse s .badArgument

/-- NOP (R167). -/
def execNop (s : State) : Result := transact .nop s fun s => (s, .done)

/-- SET_PARAMETER (R172). -/
def execSetParameter (number qualifier : Byte) (value : BitVec 32) (s : State) : Result :=
  transact (.setParameter number qualifier value) s (setParameterOwner number qualifier value)

/-- GET_PARAMETER (R172). -/
def execGetParameter (number qualifier : Byte) (s : State) : Result :=
  transact (.getParameter number qualifier) s (getParameterOwner number qualifier)

/-- SET_MODE (R173). -/
def execSetMode (mode : Byte) (s : State) : Result := transact (.setMode mode) s (setModeOwner mode)

/-- STATUS (R175). -/
def execStatus (s : State) : Result := transact .status s fun s => (s, ⟨.done, statusBody s⟩)

/-- READ_ATTENTION (R177). -/
def execReadAttention (s : State) : Result := transact .readAttention s fun s => (s, ⟨.done, attentionBody s⟩)

/-- CLEAR_ATTENTION (R178). -/
def execClearAttention (f : FlagBytes) (s : State) : Result := transact (.clearAttention f) s (clearAttentionOwner f)

/-- TAKE_CHANGES (R179). -/
def execTakeChanges (s : State) : Result := transact .takeChanges s takeChangesOwner

/-- READ_LANE (R171). -/
def execReadLane (lane : Byte) (s : State) : Result := transact (.readLane lane) s (readLaneOwner lane)

end Sys2Proof.Machine
end

