-- ==== Sys2Proof/Machine/Interferers.lean ====
section
/-! DEFINITION. The host commands on the Interferer Table (R46 to R54). -/

namespace Sys2Proof

/-- The argument is given as a value. -/
def Given.isValue {α : Type} (g : Given α) : Bool :=
  match g with
  | .omitted => false
  | .value _ => true
  | .remove => false

end Sys2Proof

namespace Sys2Proof.Machine

open Sys2Proof

/-! ## Argument checks (R33, R47 to R49) -/

/-- A host on-duration: 500 to P − 500 (R33). -/
def onDurationOk (period : Nat) (x : Half) : Bool := decide (500 ≤ x.toNat) && decide (x.toNat + 500 ≤ period)

/-- A host phase: 0 to P − 1 (R48). -/
def phaseOk (period : Nat) (x : Half) : Bool := decide (x.toNat < period)

def dutyOk (x : Byte) : Bool := decide (x.toNat ≤ 64)

def levelOk (x : Byte) : Bool := decide (x.toNat ≤ 63)

/-- A span given as first slice and count, in the band named (R2). -/
def spanIn? (band : Band) (first count : Byte) : Option Span :=
  let s : Span := ⟨first.toNat, count.toNat⟩
  if s.isInterfererSpan && s.band == band then some s else none

/-- The kind, duty, on-duration and phase of a PLACE, checks 5 to 7 of R47; the phase is stored only while the tracker
is predicting (R48). -/
def placedEmission? (t : Tracker) (a : PlaceArgs) : Option Emission :=
  if a.kind = 0 then
    match a.duty, a.onDuration with
    | none, some o =>
      if onDurationOk t.period o && a.phase.all (phaseOk t.period) then
        some (.cadenced o.toNat (if t.predicting then a.phase.map (·.toNat) else none))
      else none
    | _, _ => none
  else if a.onDuration.isSome || a.phase.isSome then none
  else
    match a.duty with
    | some d =>
      if dutyOk d then
        if a.kind = 1 then some (.steady d.toNat) else if a.kind = 2 then some (.sporadic d.toNat) else none
      else none
    | none => none

/-- The record of a PLACE whose every check passes (R47). -/
def placed? (t : Tracker) (a : PlaceArgs) : Option Interferer :=
  match Band.ofByte? a.band, placedEmission? t a with
  | some b, some e =>
    match spanIn? b a.first a.count with
    | some s =>
      if levelOk a.level && (a.kind != 0 || b == .l) then
        some { emission := e, span := s, level := a.level.toNat, confidence := 0, misses := 0,
               life := .pinned, origin := .placed }
      else none
    | none => none
  | _, _ => none

/-- A given kind and duty of an AMEND on the record's emission; none when they are not valid for it (R49). -/
def amendKind? (e : Emission) (kind duty : Option Byte) : Option Emission :=
  match e with
  | .cadenced o p => if kind.isSome || duty.isSome then none else some (.cadenced o p)
  | .steady d =>
    if duty.all dutyOk then
      let d' := (duty.map (·.toNat)).getD d
      match kind with
      | none => some (.steady d')
      | some k => if k = 1 then some (.steady d') else if k = 2 then some (.sporadic d') else none
    else none
  | .sporadic d =>
    if duty.all dutyOk then
      let d' := (duty.map (·.toNat)).getD d
      match kind with
      | none => some (.sporadic d')
      | some k => if k = 1 then some (.steady d') else if k = 2 then some (.sporadic d') else none
    else none

/-- The phase of a CADENCED record after an AMEND; none when the given phase is out of range (R48, R49). -/
def amendPhase? (t : Tracker) (old : Option Nat) (g : Given Half) : Option (Option Nat) :=
  match g with
  | .omitted => some old
  | .value x => if phaseOk t.period x then some (if t.predicting then some x.toNat else none) else none
  | .remove => some none

/-- A given on-duration and phase of an AMEND on the record's emission; none when they are not valid for it (R49). -/
def amendBurst? (t : Tracker) (e : Emission) (on : Option Half) (g : Given Half) : Option Emission :=
  match e with
  | .cadenced o p =>
    if on.all (onDurationOk t.period) then
      (amendPhase? t p g).map fun p' => .cadenced ((on.map (·.toNat)).getD o) p'
    else none
  | .steady d =>
    match on, g with
    | none, .omitted => some (.steady d)
    | _, _ => none
  | .sporadic d =>
    match on, g with
    | none, .omitted => some (.sporadic d)
    | _, _ => none

/-- The span of a record after an AMEND; none when the given span is not one of the record's band (R49). -/
def amendSpan? (old : Span) (span : Option (Byte × Byte)) : Option Span :=
  match span with
  | none => some old
  | some (f, c) => spanIn? old.band f c

/-- The record after an AMEND whose given fields are all valid for it (R49). -/
def amended? (t : Tracker) (r : Interferer) (a : InterfererAmendArgs) : Option Interferer :=
  match amendSpan? r.span a.span, (amendKind? r.emission a.kind a.duty).bind (amendBurst? t · a.onDuration a.phase) with
  | some s, some e =>
    if a.level.all levelOk then
      some { r with span := s, emission := e, level := (a.level.map (·.toNat)).getD r.level }
    else none
  | _, _ => none

/-- A phase given as a value while the tracker is not predicting was dropped (R48). -/
def phaseDropped (t : Tracker) (given : Bool) : Bool := given && !t.predicting

/-! ## The commands as events of the table -/

/-- The slot checks of R46, in their order: BAD_ARGUMENT, then NOT_FOUND. -/
def withRecord (slot : Byte) (s : State) (f : Slot → Interferer → State × Response) : State × Response :=
  match Slot.ofByte? slot with
  | none => refuse s .badArgument
  | some k =>
    match s.table[k] with
    | none => refuse s .notFound
    | some r => f k r

namespace State

/-- A claim of one host command that gives a slot's record a new value (R31, R55). -/
def claimChange (s : State) (k : Slot) (old new : Interferer) : State :=
  (s.setSlot k (some new)).completeClaim (changeMarks k old new)

/-- The record leaves the table, with the anchor notice when it was the tracker's anchor (R44, R52). -/
def claimRemoval (s : State) (k : Slot) : State :=
  (s.setSlot k none).finishClaim (s.tracker.anchor == some k) (.both k)

end State

/-- PLACE at the table (R47). -/
def placeOwner (a : PlaceArgs) (s : State) : State × Response :=
  match placed? s.tracker a with
  | none => refuse s .badArgument
  | some r =>
    match s.emptySlot with
    | none => refuse s .full
    | some k =>
      ((s.setSlot k (some r)).completeClaim (.both k),
        ⟨.done, [natByte k.val, mark (phaseDropped s.tracker a.phase.isSome)]⟩)

/-- AMEND at the table (R49). -/
def interfererAmendOwner (a : InterfererAmendArgs) (s : State) : State × Response :=
  withRecord a.slot s fun k r =>
    if r.life = .pinned then
      match amended? s.tracker r a with
      | none => refuse s .badArgument
      | some r' => (s.claimChange k r r', ⟨.done, [mark (phaseDropped s.tracker a.phase.isValue)]⟩)
    else refuse s .refused

/-- PIN at the table (R50). -/
def pinOwner (slot : Byte) (s : State) : State × Response :=
  withRecord slot s fun k r =>
    if r.life = .pinned then (s, .done)
    else (s.claimChange k r { r with life := .pinned, misses := 0 }, .done)

/-- UNPIN at the table (R51). -/
def unpinOwner (slot : Byte) (s : State) : State × Response :=
  withRecord slot s fun k r =>
    if r.life = .pinned then (s.claimChange k r { r with life := .confirmed, misses := 0 }, .done)
    else refuse s .refused

/-- RETIRE at the table (R52). -/
def retireOwner (slot : Byte) (s : State) : State × Response :=
  withRecord slot s fun k _ => (s.claimRemoval k, .done)

/-- The duty of a record, absent for CADENCED (R32). -/
def Emission.duty (e : Emission) : Option Nat :=
  match e with
  | .cadenced _ _ => none
  | .steady d => some d
  | .sporadic d => some d

/-- The on-duration of a record, absent for the other kinds (R32). -/
def Emission.onDuration (e : Emission) : Option Nat :=
  match e with
  | .cadenced o _ => some o
  | .steady _ => none
  | .sporadic _ => none

/-- The body of an interferer READ (R53, R183). -/
def interfererBody (s : State) (k : Slot) (r : Interferer) : List Byte :=
  [natByte k.val, r.emission.kindByte, r.span.band.byte, natByte r.span.first, natByte r.span.count, natByte r.level,
    optNatByte r.emission.duty] ++ optNatHalf r.emission.onDuration ++ optNatHalf r.phase ++
  [natByte r.confidence, natByte r.misses, r.life.byte, r.origin.byte, mark (s.tracker.anchor == some k)]

/-- The two bytes of a slot in SCAN (R183); bits 3 to 7 of both, in which the rule places nothing, are 0 (log entry 8). -/
def scanEntry (r : Option Interferer) : List Byte :=
  match r with
  | none => [0xFF, 0xFF]
  | some r =>
    [natByte (r.life.byte.toNat + 4 * r.origin.byte.toNat),
      natByte (r.emission.kindByte.toNat + 4 * r.span.band.byte.toNat)]

/-- The body of SCAN (R54, R183). -/
def scanBody (s : State) : List Byte :=
  [optNatByte (s.tracker.anchor.map (·.val)), natByte s.occupied] ++ s.table.toList.flatMap scanEntry

/-- PLACE (R47). -/
def execPlace (a : PlaceArgs) (s : State) : Result := transact (.place a) s (placeOwner a)

/-- INTERFERER_AMEND (R49). -/
def execInterfererAmend (a : InterfererAmendArgs) (s : State) : Result :=
  transact (.interfererAmend a) s (interfererAmendOwner a)

/-- PIN (R50). -/
def execPin (slot : Byte) (s : State) : Result := transact (.pin slot) s (pinOwner slot)

/-- UNPIN (R51). -/
def execUnpin (slot : Byte) (s : State) : Result := transact (.unpin slot) s (unpinOwner slot)

/-- RETIRE (R52). -/
def execRetire (slot : Byte) (s : State) : Result := transact (.retire slot) s (retireOwner slot)

/-- INTERFERER_READ (R53). -/
def execInterfererRead (slot : Byte) (s : State) : Result :=
  transact (.interfererRead slot) s fun s => withRecord slot s fun k r => (s, ⟨.done, interfererBody s k r⟩)

/-- SCAN (R54). -/
def execScan (s : State) : Result := transact .scan s fun s => (s, ⟨.done, scanBody s⟩)

end Sys2Proof.Machine
end

