-- ==== Sys2Proof/Machine/Resets.lean ====
section
/-! DEFINITION. Power-on reset and its release, soft reset and its taking by each block (R6, R13, R30, R62, R79, R94, R140,
R151, R165, R174). -/

namespace Sys2Proof.Machine

open Sys2Proof

namespace State

/-- RESET_N held low: every block, parameter, flag and set at its power-on value, air time 0 (R174). What is not the part's
own is kept: the queue, the count of choices and the clocks that the host processor gives (log entry 12). -/
def holdReset (s : State) : State :=
  { State.powerOn with pending := s.pending, choices := s.choices, clocks := s.clocks }

/-- RESET_N released: the counter starts at 0 and READY rises (R6, R174). -/
def releaseReset (s : State) : State :=
  if s.resetN then s else { s with resetN := true, ready := true }

/-- The blocks that a soft reset is handed to; the CPA takes its own at once (R174). -/
def resetBlocks : List Block := [.ctk, .ift, .svi, .stb, .pls, .gre, .lli]

/-- Work handed to a block is discarded as the block takes its soft reset (R174). -/
def dropWork (s : State) (b : Block) : State :=
  { s with handed := s.handed.filter fun h => h.receiver != b }

/-- SOFT RESET at the CPA: mode, start cause, flags and sets take their values, and every block is handed a reset
(R174). Parameters, masks and holdoff settings are kept. -/
def startSoftReset (s : State) : State :=
  { s.dropWork .cpa with
    ready := false
    answer := none
    mode := .run
    startCause := .soft
    flags := .clear
    changed := 0
    advised := 0
    resets := resetBlocks }

/-- A lane's link after its soft reset (R165, Table 9-3): a message in reception is discarded, and reception starts
again after an idle gap; a message leaving on LnTXD completes. -/
def softLink (k : LinkLane) : LinkLane :=
  { k with
    holder := none
    failures := 0
    latch := false
    outbound := []
    reception :=
      match k.reception with
      | .idle => .idle
      | .inProgress _ _ => .awaitingGap
      | .awaitingGap => .awaitingGap }

/-- The state a block sets as it takes its soft reset. The tracker's return to FREE takes every phase out of the table (R27),
and the emptied table brings the tracker to FREE (R44), both without a notice (R174; log entry 20). What stands across two
other blocks, one reset and one not, is left as the order of the resets makes it (log entry 18). -/
def blockValues (s : State) (b : Block) : State :=
  match b with
  | .ctk => s.removePhases.setTracker .reset
  | .ift => { s with table := Vector.replicate 32 none, tracker := s.tracker.freed }
  | .svi => { s with coverage := Vector.replicate 48 255 }
  | .stb => { s with stations := Vector.replicate 63 none }
  | .pls => { s with plans := ⟨.reset .l, .reset .l, .reset .h⟩ }
  | .gre =>
    { s with
      arbiter := .l2
      grants := ⟨.reset s.params.guardInitial, .reset s.params.guardInitial, .reset s.params.guardInitial⟩ }
  | .lli => { s with links := ⟨softLink s.links.l0, softLink s.links.l1, softLink s.links.l2⟩ }
  | .cpa => s

/-- When every block has taken its reset, the pending response is DONE and READY rises (R174). -/
def finishSoftReset (s : State) : State :=
  if s.resets = [] then { s with response := .done, ready := true } else s

/-- One block takes its soft reset, if it has been handed one (R174). -/
def takeReset (s : State) (b : Block) : State :=
  if s.resetting b then
    ({ (s.dropWork b).blockValues b with resets := s.resets.erase b }).finishSoftReset
  else s

end State

/-- POWER_ON_RESET (R174). -/
def execPowerOnReset (s : State) : Result := .next s.holdReset

/-- RESET_RELEASE (R6, R174). -/
def execResetRelease (s : State) : Result := .next s.releaseReset

/-- SOFT_RESET (R174): the transaction carries the pending response, and READY stays low until every block has taken
its reset. -/
def execSoftReset (s : State) : Result :=
  match s.port? with
  | some s => .next { s with sdo := s.response.shiftOut (s.clocksOf .softReset) }.startSoftReset
  | none => .next (s.carryNotReady (s.clocksOf .softReset))

/-- SOFT_RESET_BLOCK (R174). -/
def execSoftResetBlock (b : Block) (s : State) : Result := event s fun s => s.takeReset b

end Sys2Proof.Machine
end

