-- ==== Sys2Proof/Machine/Surveys.lean ====
section
/-! DEFINITION. The Survey Intake (R59 to R76): the coverage map, observations, matching, creation and eviction, misses,
and the report to the Cadence Tracker. -/

namespace Sys2Proof.Machine

open Sys2Proof

/-! ## Observations (R63 to R66) -/

/-- The kind guess of an observation (R66). -/
inductive Guess where
  | cadenced | steady | sporadic
  deriving DecidableEq, Repr

/-- One observation of a survey (R65); the burst is its start and length. -/
structure Observation where
  span : Span
  level : Nat
  busy : Nat
  burst : Option (AirTime × Nat)
  guess : Guess
  deriving DecidableEq, Repr

/-- Two hot readings, the second next in the survey, belong to one piece: adjacent slices, and no cut between them
(R63). -/
def joins (tol : Nat) (a b : Reading) : Bool :=
  b.slice == a.slice + 1 &&
    match a.burst, b.burst with
    | none, none => true
    | some x, some y => decide (x.1 ≤ y.1 + tol) && decide (y.1 ≤ x.1 + tol)
    | none, some _ => false
    | some _, none => false

/-- The hot readings gathered into runs and cut into pieces (R63). -/
def pieces (tol : Nat) : List Reading → List (List Reading)
  | [] => []
  | r :: rest =>
    match pieces tol rest with
    | (q :: p) :: ps => if joins tol r q then (r :: q :: p) :: ps else [r] :: (q :: p) :: ps
    | ps => [r] :: ps

/-- A piece of more than 8 readings in band H is divided from its lowest slice upward; with at most 16 readings there
are at most two parts (R64). -/
def divide (band : Band) (piece : List Reading) : List (List Reading) :=
  match band with
  | .l => [piece]
  | .h => if 8 < piece.length then [piece.take 8, piece.drop 8] else [piece]

/-- The greatest of a list of numbers, 0 for none. -/
def greatest (xs : List Nat) : Nat := xs.foldl max 0

/-- The earliest rise and the latest fall among a piece's bursts (R65). -/
def pieceBurst (piece : List Reading) : Option (Nat × Nat) :=
  (piece.filterMap (·.burst)).foldl
    (fun acc b =>
      match acc with
      | none => some b
      | some a => some (min a.1 b.1, max a.2 b.2)) none

/-- Table 4-3. -/
def guessKind (steadyFloor : Nat) (v : Survey) (burst : Bool) (busy : Nat) : Guess :=
  if burst && v.band == .l && decide (15000 ≤ v.length) then .cadenced
  else if steadyFloor ≤ busy then .steady else .sporadic

/-- The observation of a piece (R65). -/
def observe (p : Params) (v : Survey) (piece : List Reading) : Observation :=
  let busy := greatest (piece.map (·.busy))
  let burst := pieceBurst piece
  { span := ⟨(piece.head?.map (·.slice)).getD 0, piece.length⟩
    level := greatest (piece.map (·.level))
    busy := busy
    burst := burst.map fun b => (after v.start b.1, b.2 - b.1)
    guess := guessKind p.steadyFloor v burst.isSome busy }

/-- The observations of a survey, in ascending order of first slice (R61, R63). -/
def observations (p : Params) (v : Survey) : List Observation :=
  ((pieces p.matchTol (v.readings.filter fun r => decide (p.detectLevel ≤ r.level))).flatMap (divide v.band)).map
    (observe p v)

/-! ## What a match, a creation and a miss do to one record (R36, R39 to R43) -/

/-- An on-duration clamped into 500 to P − 500 (R33). -/
def clampOn (period : Nat) (x : Int) : Nat := clampInt 500 (period - 500) x

/-- The observed phase of an observation's burst start, while the tracker is predicting (R28). -/
def Observation.phase (o : Observation) (t : Tracker) : Option Nat :=
  match t.prediction, o.burst with
  | some p, some b => some (p.phaseOf b.1)
  | some _, none => none
  | none, _ => none

/-- The record created for an observation (R36). -/
def Observation.record (o : Observation) (t : Tracker) : Interferer where
  emission :=
    match o.guess with
    | .cadenced => .cadenced (clampOn t.period ((o.burst.map (·.2)).getD 0 : Nat)) (o.phase t)
    | .steady => .steady o.busy
    | .sporadic => .sporadic o.busy
  span := o.span
  level := o.level
  confidence := 1
  misses := 0
  life := .tentative
  origin := .learned

/-- The phase after a match, from the phase held and the phase observed (R41). -/
def movedPhase (period : Nat) (held observed : Option Nat) : Option Nat :=
  match held, observed with
  | _, none => held
  | none, some x => some x
  | some φ, some x => some (onCircle period ((φ : Int) + part (shortestStep period φ x) 4))

/-- The emission of a non-PINNED record after a match (R40, R41). -/
def Emission.matched (e : Emission) (p : Params) (t : Tracker) (o : Observation) : Emission :=
  match e with
  | .cadenced on φ =>
    match o.burst with
    | some b => .cadenced (clampOn t.period ((on : Int) + part ((b.2 : Int) - on) 4)) (movedPhase t.period φ (o.phase t))
    | none => .cadenced on φ
  | .steady d =>
    if p.steadyFloor ≤ ceilDiv (3 * d + o.busy) 4 then .steady (ceilDiv (3 * d + o.busy) 4)
    else .sporadic (ceilDiv (3 * d + o.busy) 4)
  | .sporadic d =>
    if p.steadyFloor ≤ ceilDiv (3 * d + o.busy) 4 then .steady (ceilDiv (3 * d + o.busy) 4)
    else .sporadic (ceilDiv (3 * d + o.busy) 4)

/-- The emission of a PINNED record after a match: only a missing phase is taken (R42). -/
def Emission.matchedPinned (e : Emission) (t : Tracker) (o : Observation) : Emission :=
  match e with
  | .cadenced on none => .cadenced on (o.phase t)
  | .cadenced on (some φ) => .cadenced on (some φ)
  | .steady d => .steady d
  | .sporadic d => .sporadic d

/-- The life state after a match, with the confidence after its rise (R39). -/
def Life.matched (l : Life) (confirmCount confidence : Nat) : Life :=
  match l with
  | .tentative => if confirmCount ≤ confidence then .confirmed else .tentative
  | .confirmed => .confirmed
  | .fading => .confirmed
  | .pinned => .pinned

/-- A record after a match (R39 to R42). -/
def Interferer.matched (r : Interferer) (p : Params) (t : Tracker) (o : Observation) : Interferer :=
  let confidence := min 15 (r.confidence + 1)
  if r.life = .pinned then
    { r with confidence := confidence, misses := 0, emission := r.emission.matchedPinned t o }
  else
    { r with
      confidence := confidence
      misses := 0
      life := r.life.matched p.confirmCount confidence
      span := o.span
      level := o.level
      emission := r.emission.matched p t o }

/-- A record after a miss; none when the miss removes it (R43). A PINNED record is not charged (R71). -/
def Interferer.missed (r : Interferer) (p : Params) : Option Interferer :=
  let m := min 255 (r.misses + 1)
  match r.life with
  | .tentative => if p.tentativeMisses ≤ m then none else some { r with misses := m }
  | .confirmed =>
    if p.fadeMisses ≤ m then
      if p.retireMisses ≤ m then none else some { r with misses := m, life := .fading }
    else some { r with misses := m }
  | .fading => if p.retireMisses ≤ m then none else some { r with misses := m }
  | .pinned => some r

/-! ## The survey's claim on the table -/

/-- The table and the survey's marks while the claim is in progress. taken lists the slots matched or created, each
with its observation, in the order taken; anchorGone says that the tracker's anchor record has left the table. -/
structure Intake where
  table : Vector (Option Interferer) 32
  marks : Marks
  taken : List (Slot × Observation)
  dropped : Nat
  anchorGone : Bool
  deriving DecidableEq, Repr

/-- The slot's record was matched or created in this survey. -/
def Intake.isTaken (i : Intake) (k : Slot) : Bool := i.taken.any fun x => x.1 == k

/-- A CADENCED observation goes with a CADENCED record, the others with the other two kinds (R67). -/
def compatible (o : Observation) (r : Interferer) : Bool := (o.guess == .cadenced) == r.isCadenced

/-- The phase test (R68). -/
def phaseTest (p : Params) (t : Tracker) (o : Observation) (r : Interferer) : Bool :=
  match r.phase, o.phase t with
  | some φ, some x =>
    let s := shortestStep t.period φ x
    decide (-(p.matchTol : Int) ≤ s) && decide (s ≤ p.matchTol)
  | some _, none => true
  | none, _ => true

/-- The overlap of a candidate record with an observation; none when the record is no candidate (R67). -/
def Intake.candidate (i : Intake) (s : State) (o : Observation) (k : Slot) : Option Nat :=
  match i.table[k] with
  | none => none
  | some r =>
    let amount := r.span.overlap o.span
    if r.span.band == o.span.band && decide (ceilDiv (min r.span.count o.span.count) 2 ≤ amount) &&
        compatible o r && !i.isTaken k && phaseTest s.params s.tracker o r then
      some amount
    else none

/-- The candidate of greatest overlap, the lowest slot among equals (R69). -/
def Intake.choose (i : Intake) (s : State) (o : Observation) : Option Slot :=
  ((List.finRange 32).foldl
    (fun (best : Option (Slot × Nat)) k =>
      match i.candidate s o k, best with
      | none, _ => best
      | some n, none => some (k, n)
      | some n, some (j, m) => if m < n then some (k, n) else some (j, m)) none).map (·.1)

/-- The lowest-numbered EMPTY slot (R36). -/
def Intake.empty (i : Intake) : Option Slot :=
  (List.finRange 32).find? fun k => (i.table[k]).isNone

/-- The record evicted for a new one: TENTATIVE and not taken in this survey, of the lowest confidence, then the highest
misses, then the lowest slot (R37). -/
def Intake.evictee (i : Intake) : Option Slot :=
  ((List.finRange 32).foldl
    (fun (best : Option (Slot × Interferer)) k =>
      match i.table[k] with
      | none => best
      | some r =>
        if r.life == .tentative && !i.isTaken k then
          match best with
          | none => some (k, r)
          | some (j, q) =>
            if r.confidence < q.confidence ∨ (r.confidence = q.confidence ∧ q.misses < r.misses) then some (k, r)
            else some (j, q)
        else best) none).map (·.1)

/-- A new record goes into a slot (R36). -/
def Intake.create (i : Intake) (s : State) (o : Observation) (k : Slot) : Intake :=
  { i with
    table := i.table.set k (some (o.record s.tracker))
    marks := i.marks.join (.both k)
    taken := i.taken ++ [(k, o)] }

/-- One observation is taken: it matches a record, creates one, or is dropped (R69, R70, R36 to R38). -/
def Intake.take (s : State) (i : Intake) (o : Observation) : Intake :=
  match i.choose s o with
  | some k =>
    match i.table[k] with
    | some r =>
      let r' := r.matched s.params s.tracker o
      { i with
        table := i.table.set k (some r')
        marks := i.marks.join (changeMarks k r r')
        taken := i.taken ++ [(k, o)] }
    | none => i
  | none =>
    match i.empty with
    | some k => i.create s o k
    | none =>
      match i.evictee with
      | some k => { i.create s o k with anchorGone := i.anchorGone || s.tracker.anchor == some k }
      | none => { i with dropped := i.dropped + 1 }

/-- The record is covered by the survey (R72): some slice of it was read, and for a CADENCED record with a phase, while
the tracker is predicting, some predicted on-window of it meets the dwell window. -/
def covered (t : Tracker) (v : Survey) (r : Interferer) : Bool :=
  (v.readings.any fun x => decide (r.span.first ≤ x.slice) && decide (x.slice < r.span.first + r.span.count)) &&
    match t.prediction, r.onArc 0 with
    | some p, some arc => arc.meets p.period ⟨signedDiff p.reference v.start, v.length⟩
    | some _, none => true
    | none, _ => true

/-- The miss account of one slot (R71). -/
def Intake.charge (s : State) (v : Survey) (i : Intake) (k : Slot) : Intake :=
  match i.table[k] with
  | none => i
  | some r =>
    if r.span.band == v.band && !i.isTaken k && r.life != .pinned && covered s.tracker v r then
      match r.missed s.params with
      | some r' => { i with table := i.table.set k (some r'), marks := i.marks.join (changeMarks k r r') }
      | none =>
        { i with
          table := i.table.set k none
          marks := i.marks.join (.both k)
          anchorGone := i.anchorGone || s.tracker.anchor == some k }
    else i

/-- Stages 3 and 4 of R61: all matches, creations, evictions and misses of a survey. -/
def intake (s : State) (v : Survey) : Intake :=
  (List.finRange 32).foldl (Intake.charge s v)
    ((observations s.params v).foldl (Intake.take s) ⟨s.table, .none, [], 0, false⟩)

/-! ## The event -/

/-- The coverage map after an accepted survey (R62). -/
def coverageAfter (v : Survey) (c : Vector Nat 48) : Vector Nat 48 :=
  Vector.ofFn fun i : Fin 48 =>
    if v.readings.any (fun r => r.slice == i.val) then 0
    else if Band.ofSlice i.val == v.band then min 255 (c.get i + 1) else c.get i

/-- The report of a survey, chosen against the tracker's anchor after the claim (R73 to R75). -/
def surveyReport (s : State) (v : Survey) (i : Intake) : Option Handed :=
  match s.tracker.anchor with
  | some k =>
    match i.taken.find? fun x => x.1 == k with
    | some x => x.2.burst.map fun b => .riseReport k b.1
    | none =>
      match s.table[k] with
      | some r => if covered s.tracker v r then some (.anchorMissReport k) else none
      | none => none
  | none =>
    match i.taken.find? fun x => x.2.guess == .cadenced with
    | some x => x.2.burst.map fun b => .riseReport x.1 b.1
    | none => none

namespace State

/-- The TABLE_FULL requests of the dropped observations, one for each (R38). -/
def requestFull (s : State) (n : Nat) : State :=
  match n with
  | 0 => s
  | n + 1 => (s.request .ift .tableFull).requestFull n

/-- The survey's claim on the table, complete (stages 3 to 5 of R61). -/
def surveyClaim (s : State) (i : Intake) : State :=
  (({ s with table := i.table }).requestFull i.dropped).finishClaim i.anchorGone i.marks

/-- The intake hands the tracker its report for the survey, if there is one (stage 6 of R61). -/
def handReport (s : State) (h : Option Handed) : State :=
  match h with
  | some h => s.hand .svi h
  | none => s

/-- An accepted survey (R61). A claim handed by an intake that has yet to take a soft reset has no effect on a table
that has taken it, and leaves nothing to report (R174). -/
def acceptSurvey (s : State) (v : Survey) : State :=
  let s := { s with coverage := coverageAfter v s.coverage }
  if s.crossesReset .svi .ift then s
  else
    let i := intake s v
    let s := s.surveyClaim i
    s.handReport (surveyReport s v i)

/-- The time at which a lane's held SURVEY entered its holder. -/
def surveyEntry (s : State) (l : Lane) : Option AirTime :=
  match (s.links.get l).holder with
  | some m => if m.kind = .survey then some m.entered else none
  | none => none

/-- The lane whose SURVEY the intake takes: the one that entered first, of the lowest-numbered lane among those that
entered in the same microsecond (R59). Where the entry times have no first under R7, the lanes are compared in the order of
their numbers and the later one is taken only if it entered before the one held so far: the model's choice (log entry 21). -/
def surveyLane (s : State) : Option Lane :=
  (Lane.all.foldl
    (fun (best : Option (Lane × AirTime)) l =>
      match s.surveyEntry l, best with
      | none, _ => best
      | some t, none => some (l, t)
      | some t, some (j, u) => if before t u then some (l, t) else some (j, u)) none).map (·.1)

/-- The survey of a body that passes the checks of R60, for a lane of the band given. -/
def surveyOf? (s : State) (l : Lane) (body : List Byte) : Option Survey :=
  match parseSurvey body with
  | some v => if v.valid && v.band == (s.plans.get l).band then some v else none
  | none => none

/-- The intake takes the SURVEY of a lane (R59, R60, R61). -/
def takeSurvey (s : State) (l : Lane) : State :=
  let body := s.heldBody .svi l
  let s := s.emptyHolder l
  match body with
  | none => s
  | some body =>
    match s.surveyOf? l body with
    | some v => s.acceptSurvey v
    | none => s.sendOut .svi l (.nak .malformed InKind.survey.byte)

end State

/-- SURVEY (R59 to R76): with no SURVEY held there is nothing to take. -/
def execSurvey (s : State) : Result :=
  event s fun s =>
    match s.surveyLane with
    | some l => s.takeSurvey l
    | none => s

end Sys2Proof.Machine
end

