-- ==== Sys2Proof/Machine/Links.lean ====
section
/-! DEFINITION. The Lane Link Interface (R154 to R166): arrivals and their tests, the restart of a link, and the
outbound queue. -/

namespace Sys2Proof.Machine

open Sys2Proof

namespace State

/-- The link steps of HELLO and LANE RESET: the holder and the messages not yet begun are discarded, the count is 0 and
the latch clear (R162). -/
def restartLink (s : State) (l : Lane) : State :=
  s.setLink l { s.links.get l with holder := none, failures := 0, latch := false, outbound := [] }

/-- A message enters the lane's holder (R159). -/
def enterHolder (s : State) (l : Lane) (k : InKind) (body : List Byte) : State :=
  s.setLink l { s.links.get l with holder := some ⟨k, body, s.airTime⟩ }

/-- A HELLO that passes tests 1 to 3 is taken at the link as the lane's restart (R162). -/
def helloAtLink (s : State) (l : Lane) : State := (s.restartLink l).enterHolder l .hello []

/-- A NAK of the Lane Link Interface (Table 9-2). -/
def linkNak (s : State) (l : Lane) (r : NakReason) (kind : Byte) : State := s.sendOut .lli l (.nak r kind)

/-- The check-failure count moves: the third failure sets the latch; a set latch leaves the count (R158). -/
def countFailure (s : State) (l : Lane) : State :=
  let k := s.links.get l
  if k.latch then s
  else
    let s := s.setLink l { k with failures := k.failures + 1 }
    if k.failures + 1 < Config.failureLimit then s else s.faultLink l

/-- A message that passes its check while the latch is clear sets the count to 0 (R157, R158). -/
def clearFailures (s : State) (l : Lane) : State :=
  let k := s.links.get l
  if k.latch then s else s.setLink l { k with failures := 0 }

/-- Tests 4 to 7 of Table 9-4 on a message of a known kind and an allowed length; hold and holdoff are those at its
first byte (R159, R160). -/
def admitMessage (s : State) (l : Lane) (hold holdoff : Bool) (k : InKind) (body : List Byte) : State :=
  if k = .hello then s.helloAtLink l
  else if k = .survey ∧ (s.plans.get l).state = .disabled then s.linkNak l .disabled k.byte
  else if (s.links.get l).holder.isSome || (holdoff && hold) then s.linkNak l .overrun k.byte
  else s.enterHolder l k body

/-- Tests 2 and 3 of Table 9-4 on a message that passed its check, by its kind byte and its body. -/
def sortMessage (s : State) (l : Lane) (hold holdoff : Bool) (kind : Byte) (body : List Byte) : State :=
  if (s.links.get l).latch && kind != InKind.hello.byte then s.linkNak l .faulted kind
  else
    match InKind.ofByte? kind with
    | some k => if k.allows body.length then s.admitMessage l hold holdoff k body else s.linkNak l .malformed kind
    | none => s.linkNak l .malformed kind

/-- An arrival: a message completed or ended short, with the bytes received (Table 9-4). A failed check moves the count before
its NAK is handed, so that a full queue, which sets the latch, does not keep the count back: the model's choice (log entry
22). -/
def arrive (s : State) (l : Lane) (hold holdoff : Bool) (bytes : List Byte) : State :=
  if passesCheck bytes then
    (s.clearFailures l).sortMessage l hold holdoff (bytes.headD 0) (bytes.drop 2).dropLast
  else (s.countFailure l).linkNak l .check 0

/-- The receiver of a lane changes what it is doing (R156). -/
def setReception (s : State) (l : Lane) (r : Reception) : State :=
  s.setLink l { s.links.get l with reception := r }

/-- The first byte of a message begins: HOLD and the holdoff setting are those that will decide test 6 (R159, R160).
After a soft reset nothing begins before the next idle gap (R165). -/
def beginReception (s : State) (l : Lane) : State :=
  match (s.links.get l).reception with
  | .idle => s.setReception l (.inProgress (s.hold l) (s.params.holdoff.get l))
  | .inProgress _ _ => s
  | .awaitingGap => s

/-- The message in reception ends, completed or short. A message whose first byte was not given apart began with HOLD
and the setting as they stand. -/
def endReception (s : State) (l : Lane) (bytes : List Byte) : State :=
  match (s.links.get l).reception with
  | .idle => s.arrive l (s.hold l) (s.params.holdoff.get l) bytes
  | .inProgress hold holdoff => (s.setReception l .idle).arrive l hold holdoff bytes
  | .awaitingGap => s

/-- The arrival of a HELLO that passes tests 1 to 3 (R162). -/
def helloArrives (s : State) (l : Lane) : State :=
  match (s.links.get l).reception with
  | .idle => s.helloAtLink l
  | .inProgress _ _ => (s.setReception l .idle).helloAtLink l
  | .awaitingGap => s

/-- The message at the head of the queue begins to leave, and a WELCOME is stamped with the air time (R163, R164). -/
def sendHead (s : State) (l : Lane) : State :=
  match (s.links.get l).outbound with
  | [] => s
  | m :: rest => s.setLink l { s.links.get l with outbound := rest, txd := m.bytes s.airTime }

/-- An idle gap of more than two byte times after a soft reset lets reception start again (R165). -/
def restartReception (s : State) (l : Lane) : State :=
  match (s.links.get l).reception with
  | .idle => s
  | .inProgress _ _ => s
  | .awaitingGap => s.setReception l .idle

end State

/-- LANE_MESSAGE_ARRIVAL (R157 to R160), with the first byte of a message as an event of its own. -/
def execLaneMessageArrival (l : Lane) (e : LineEvent) (s : State) : Result :=
  event s fun s =>
    match e with
    | .firstByte => s.beginReception l
    | .ends bytes => s.endReception l bytes

/-- HELLO_ARRIVAL (R162). -/
def execHelloArrival (l : Lane) (s : State) : Result := event s fun s => s.helloArrives l

/-- OUTBOUND_SEND (R163, R164). -/
def execOutboundSend (l : Lane) (s : State) : Result := event s fun s => s.sendHead l

/-- RECEPTION_RESTART_AFTER_IDLE_GAP (R165). -/
def execReceptionRestartAfterIdleGap (l : Lane) (s : State) : Result := event s fun s => s.restartReception l

end Sys2Proof.Machine
end

