-- ==== Sys2Proof/Machine/Plans.lean ====
section
/-! DEFINITION. The Plan Stacks (R94 to R120): clear fractions, judgement, the switch protocol, the host commands on the
stacks, lanes in and out of service, and the steering comparison (R90). -/

namespace Sys2Proof.Machine

open Sys2Proof

/-! ## The clear fraction (R98 to R100) -/

/-- What a counting record that overlaps a span adds to d (R98, R99). -/
def Interferer.contribution (r : Interferer) (predicting : Bool) (p g : Nat) : Nat :=
  match r.emission with
  | .cadenced o φ => if predicting && φ.isSome then 0 else ceilDiv (64 * min p (o + 2 * g)) p
  | .steady d => d
  | .sporadic d => d

namespace State

/-- Some slice of the span is older than COVERAGE_LIMIT (R100). -/
def unheard (s : State) (c : Span) : Bool :=
  c.slices.any fun i => decide (s.params.coverageLimit < s.coverage[i]?.getD 255)

/-- U: the length of the union of the guarded on-intervals; 0 while the tracker is not predicting (R98, R99). -/
def blockedLength (s : State) (c : Span) (g : Nat) : Nat :=
  if s.tracker.predicting then unionLength s.tracker.period (s.blockingArcs c g) else 0

/-- d: the capped sum of the contributions (R98, R99). -/
def dutySum (s : State) (c : Span) (g : Nat) : Nat :=
  min 64 ((s.countingOver c).map fun r => r.contribution s.tracker.predicting s.tracker.period g).sum

/-- The clear fraction of a span for a guard; none is UNKNOWN (R98 to R100). -/
def clearFraction (s : State) (c : Span) (g : Nat) : Option Nat :=
  if s.unheard c then none
  else some ((s.tracker.period - s.blockedLength c g) * (64 - s.dutySum c g) / s.tracker.period)

/-- The clear fraction of a plan span of a lane, over its full span with the lane's edge guard (R94). -/
def planFraction (s : State) (l : Lane) (p : PlanSpan) : Option Nat :=
  s.clearFraction p.span (s.grants.get l).edgeGuard

end State

/-- Table 6-5. -/
inductive Comparison where
  | better | equal | worse | unordered
  deriving DecidableEq, Repr

/-- A candidate's clear fraction compared with a reference's (R100). -/
def compareFractions (candidate reference : Option Nat) : Comparison :=
  match candidate, reference with
  | some a, some b => if b < a then .better else if a = b then .equal else .worse
  | none, _ => .unordered
  | some _, none => .unordered

def Comparison.byte (c : Comparison) : Byte :=
  match c with
  | .better => 0
  | .equal => 1
  | .worse => 2
  | .unordered => 3

/-! ## Switches (R97, R105, R106) -/

/-- The lane's operating plan is its top entry (R96). -/
def PlanLane.top (p : PlanLane) : Option PlanEntry := p.stack.getLast?

/-- The entry at a position takes a tag (R102, R103, R107, R108). -/
def tagAt (stack : List PlanEntry) (position : Nat) (t : Tag) : List PlanEntry :=
  stack.modify (position - 1) fun e => { e with tag := t }

/-- A lane between plans: DRAINING, SWITCHING or UNSYNCED (R112, R113). -/
def PlanState.between (p : PlanState) : Bool :=
  match p with
  | .disabled => false
  | .settled => false
  | .draining => true
  | .switching => true
  | .unsynced => true
  | .halted => false

/-- A SWITCH order has been sent and is in flight: SWITCHING or UNSYNCED (R106). -/
def PlanState.inFlight (p : PlanState) : Bool :=
  match p with
  | .disabled => false
  | .settled => false
  | .draining => false
  | .switching => true
  | .unsynced => true
  | .halted => false

namespace State

/-- The SWITCH message of a lane's switch record goes to the link, with the countdown as it stands, and the switch
timeout is started; the lane takes the state and attempt count given (R106, R109). -/
def sendOrder (s : State) (l : Lane) (w : SwitchRecord) (state : PlanState) (attempts : Nat) : State :=
  (s.sendOut .pls l (.switchOrder w.target s.params.switchCountdown)).setPlan l
    { s.plans.get l with
      state := state
      attempts := attempts
      timeout := some (after s.airTime (s.params.switchTimeout * 1000)) }

/-- The first sending of a lane's order (R106). -/
def firstOrder (s : State) (l : Lane) : State :=
  match (s.plans.get l).switch with
  | some w => s.sendOrder l w .switching 0
  | none => s

/-- A FALLBACK, PUSH or POP switch begins: the lane drains, or with no outstanding grant is ordered at once (R105). -/
def beginSwitch (s : State) (l : Lane) (w : SwitchRecord) : State :=
  let s := s.setPlan l { s.plans.get l with state := .draining, switch := some w, settle := none }
  if (s.grants.get l).outstanding.isEmpty then s.firstOrder l else s

end State

/-! ## Judgement (R101 to R104) -/

/-- The fallback search over the entries beneath the top, listed downward: their tags after it, and the candidate's
position (R103). -/
def searchDown (q : PlanSpan → Option Nat) : List PlanEntry → List PlanEntry × Option Nat
  | [] => ([], none)
  | e :: rest =>
    match q e.plan with
    | none => let r := searchDown q rest; (e :: r.1, r.2)
    | some n =>
      if e.tolerance ≤ n then (e :: rest, some (rest.length + 1))
      else let r := searchDown q rest; ({ e with tag := .stale } :: r.1, r.2)

namespace State

/-- The lane has underflowed (R104). -/
def underflow (s : State) (l : Lane) : State :=
  if s.params.underflowMask then s.request .pls (.lane .noFallback l)
  else (s.setPlan l { s.plans.get l with state := .halted }).request .pls (.lane .laneHalted l)

/-- The fallback search of a lane whose unacceptable top is given, tagged STALE (R103, R104). -/
def searchFallback (s : State) (l : Lane) (top : PlanEntry) : State :=
  let lane := s.plans.get l
  let r := searchDown (s.planFraction l) lane.stack.dropLast.reverse
  let stack := r.1.reverse ++ [top]
  let s := s.setPlan l { lane with stack := stack }
  match r.2 with
  | none => s.underflow l
  | some position =>
    match stack[position - 1]? with
    | some e => s.beginSwitch l ⟨.fallback, position, e.plan⟩
    | none => s

/-- A judgement of a lane (R102). -/
def judge (s : State) (l : Lane) : State :=
  let lane := s.plans.get l
  match lane.top with
  | none => s
  | some top =>
    match s.planFraction l top.plan with
    | none => s
    | some q =>
      if top.tolerance ≤ q then
        s.setPlan l { lane with stack := lane.stack.dropLast ++ [{ top with tag := .valid }] }
      else
        match s.mode with
        | .bypass => s.setPlan l { lane with stack := lane.stack.dropLast ++ [{ top with tag := .stale }] }
        | .run => s.searchFallback l { top with tag := .stale }

/-- Only a lane that is SETTLED with its settle timer stopped is judged (R101). -/
def judgeEligible (s : State) (l : Lane) : State :=
  if (s.plans.get l).state = .settled ∧ (s.plans.get l).settle = none then s.judge l else s

/-- A notice that judges every lane (R101). -/
def judgeAll (s : State) : State := ((s.judgeEligible .l0).judgeEligible .l1).judgeEligible .l2

/-! ## Answers and timers (R105 to R111) -/

/-- A drain notice: a DRAINING lane sends its order, any other discards the notice (R105). A notice handed before a later GO
sends the order too, without a look at the lane's outstanding grants: the model's choice (log entry 23). -/
def takeDrain (s : State) (l : Lane) : State :=
  if (s.plans.get l).state = .draining then s.firstOrder l else s

/-- The switch completes (R107). -/
def completeSwitch (s : State) (l : Lane) (w : SwitchRecord) : State :=
  let lane := s.plans.get l
  let s := s.setPlan l { lane with
    stack := tagAt (lane.stack.take w.position) w.position .valid
    state := .settled
    switch := none
    attempts := 0
    settle := some (after s.airTime (s.params.settleTime * 1000000))
    timeout := none }
  if w.kind = .fallback then s.request .pls (.lane .fallbackDone l) else s

/-- The stack after a failed switch (R108). -/
def failedStack (stack : List PlanEntry) (w : SwitchRecord) : List PlanEntry :=
  match w.kind with
  | .fallback => stack.eraseIdx (w.position - 1)
  | .push => stack.eraseIdx (w.position - 1)
  | .pop => tagAt stack w.position .stale
  | .restore => tagAt stack w.position .stale

/-- The switch ends without a move (R108). -/
def failSwitch (s : State) (l : Lane) (w : SwitchRecord) : State :=
  let lane := s.plans.get l
  let lane := { lane with stack := failedStack lane.stack w, switch := none, attempts := 0, timeout := none }
  if w.kind = .restore then
    ((s.setPlan l { lane with state := .halted }).request .pls (.lane .switchFailed l)).request .pls
      (.lane .laneHalted l)
  else
    ((s.setPlan l { lane with state := .settled }).request .pls (.lane .switchFailed l)).judgeEligible l

/-- A valid switch answer of a lane, carrying a plan span, ends the switch in flight that has that target; any other
draws NAK(UNEXPECTED) (R107, R108, R110). -/
def takeAnswer (s : State) (l : Lane) (p : PlanSpan) (kind : InKind) (finish : State → SwitchRecord → State) : State :=
  match (s.plans.get l).switch with
  | some w =>
    if (s.plans.get l).state.inFlight ∧ w.target = p then finish s w
    else s.sendOut .pls l (.nak .unexpected kind.byte)
  | none => s.sendOut .pls l (.nak .unexpected kind.byte)

/-- The Plan Stacks take a held switch answer of the kind: a malformed one draws NAK(MALFORMED) (R161). -/
def takeHeldAnswer (s : State) (l : Lane) (kind : InKind) (finish : State → SwitchRecord → State) : State :=
  if s.holds l kind then
    let body := s.heldBody .pls l
    let s := s.emptyHolder l
    match body with
    | none => s
    | some body =>
      match parsePlan body with
      | some p => s.takeAnswer l p kind finish
      | none => s.sendOut .pls l (.nak .malformed kind.byte)
  else s

/-- The switch timeout expires with no answer taken (R109). -/
def expireSwitch (s : State) (l : Lane) : State :=
  let lane := s.plans.get l
  if lane.state.inFlight && reached s.airTime lane.timeout then
    match lane.switch with
    | none => s
    | some w =>
      if lane.attempts < s.params.switchRetries then s.sendOrder l w .unsynced (lane.attempts + 1)
      else
        ((s.setPlan l { lane with state := .halted, switch := none, timeout := none }).request .pls
          (.lane .laneHalted l)).request .pls (.lane .linkFault l)
  else s

/-- The settle timer expires: the lane is judged once (R111). -/
def expireSettle (s : State) (l : Lane) : State :=
  let lane := s.plans.get l
  if reached s.airTime lane.settle then (s.setPlan l { lane with settle := none }).judgeEligible l else s

/-! ## Restart and service (R117 to R119) -/

/-- The order for the lane's current top, of kind RESTORE (R117, R119). -/
def restoreTop (s : State) (l : Lane) : State :=
  let lane := s.plans.get l
  match lane.top with
  | none => s
  | some e =>
    (s.setPlan l { lane with switch := some ⟨.restore, lane.stack.length, e.plan⟩, settle := none }).firstOrder l

def sendWelcome (s : State) (l : Lane) : State := s.sendOut .pls l (.welcome l (s.plans.get l).band)

/-- The restart event of a lane, from HELLO or LANE RESET (R119, R150). -/
def restartLane (s : State) (l : Lane) : State :=
  let s := (s.closeLane l).resetGuard l
  let lane := s.plans.get l
  if lane.state = .disabled then s.sendWelcome l
  else
    ((s.setPlan l { lane with switch := none, timeout := none, settle := none, attempts := 0 }).sendWelcome l).restoreTop l

/-- DISABLE of an enabled lane (R118). -/
def takeOutOfService (s : State) (l : Lane) : State :=
  let s := s.closeLane l
  s.setPlan l { s.plans.get l with state := .disabled, switch := none, timeout := none, settle := none, attempts := 0 }

/-! ## The steering comparison (R90) -/

/-- The clear fraction of a lane's top plan as a station of the width would use it. -/
def steerFraction (s : State) (w : Width) (l : Lane) : Option Nat :=
  match (s.plans.get l).top with
  | none => none
  | some e =>
    match w with
    | .w40 => s.planFraction l e.plan
    | .w20 => s.planFraction l e.plan.primaryHalf

/-- The clear fraction of a lane that is a candidate against the home lane's (R90). -/
def steerCandidate (s : State) (r : SteeringRequest) (homeQ : Nat) (l : Lane) : Option Nat :=
  if l ≠ r.home ∧ (s.plans.get l).state ≠ .disabled ∧ r.bands.has (s.plans.get l).band then
    (s.steerFraction r.width l).filter fun q => decide (homeQ + s.params.steerMargin ≤ q)
  else none

/-- The lane a steering request's result names (R90). -/
def steer (s : State) (r : SteeringRequest) : Option Lane :=
  match s.steerFraction r.width r.home with
  | none => none
  | some homeQ =>
    (Lane.all.foldl
      (fun (best : Option (Lane × Nat)) l =>
        match s.steerCandidate r homeQ l, best with
        | none, _ => best
        | some q, none => some (l, q)
        | some q, some (j, m) => if m < q then some (l, q) else some (j, m)) none).map (·.1)

end State

/-! ## Host commands on the stacks (R112 to R115, R117, R118) -/

/-- The new entry goes on top of the stack, whose bottom entry is shed when the stack is full (R112). -/
def pushed (stack : List PlanEntry) (e : PlanEntry) : List PlanEntry :=
  (if stack.length < Config.stackDepth then stack else stack.drop 1) ++ [e]

/-- PUSH at the Plan Stacks, for a valid plan span and tolerance, checks 2 to 4 and the steps of R112. -/
def pushChecked (l : Lane) (p : PlanSpan) (tolerance : Nat) (s : State) : State × Response :=
  let lane := s.plans.get l
  let free : Bool := lane.state == .disabled && lane.stack.isEmpty
  let full : Bool := decide (Config.stackDepth ≤ lane.stack.length)
  if lane.state.between then refuse s .busy
  else if p.band ≠ lane.band ∧ free = false then refuse s .badArgument
  else if full ∧ s.params.overflowMask = false then refuse s .stackFull
  else
    let stack := pushed lane.stack ⟨p, tolerance, .valid⟩
    let t := s.setPlan l { lane with band := if free then p.band else lane.band, stack := stack }
    let t := if full then t.request .pls (.lane .stackShed l) else t
    let t := if lane.state = .disabled then t else t.beginSwitch l ⟨.push, stack.length, p⟩
    (t, ⟨.done, [natByte stack.length, mark full]⟩)

/-- PUSH at the Plan Stacks (R112). -/
def pushOwner (lane : Byte) (plan : RawPlan) (tolerance : Byte) (s : State) : State × Response :=
  withLane lane s fun l =>
    match planOf? plan with
    | some p => if tolerance.toNat ≤ 64 then pushChecked l p tolerance.toNat s else refuse s .badArgument
    | none => refuse s .badArgument

/-- POP on a SETTLED or HALTED lane: a switch to the entry beneath the top (R113). -/
def popSwitch (l : Lane) (s : State) : State × Response :=
  let lane := s.plans.get l
  if lane.stack.length ≤ 1 then refuse s .lastPlan
  else
    match lane.stack[lane.stack.length - 2]? with
    | some e => (s.beginSwitch l ⟨.pop, lane.stack.length - 1, e.plan⟩, .done)
    | none => refuse s .lastPlan

/-- POP at the Plan Stacks (R113). -/
def popOwner (lane : Byte) (s : State) : State × Response :=
  withLane lane s fun l =>
    let p := s.plans.get l
    if p.state.between then refuse s .busy
    else if p.state = .disabled then
      if p.stack.isEmpty then refuse s .emptyStack
      else (s.setPlan l { p with stack := p.stack.dropLast }, ⟨.done, [natByte (p.stack.length - 1)]⟩)
    else popSwitch l s

/-- CONTINUE at the Plan Stacks (R114). -/
def continueOwner (lane : Byte) (s : State) : State × Response :=
  withLane lane s fun l =>
    let p := s.plans.get l
    if p.state = .halted then (s.setPlan l { p with state := .settled, attempts := 0 }, .done) else refuse s .refused

/-- The entries of READ PLANS from the bottom up, numbered from a position (R115). -/
def entryBytes (q : PlanSpan → Option Nat) : Nat → List PlanEntry → List Byte
  | _, [] => []
  | n, e :: rest =>
    natByte n :: e.plan.bytes ++ [natByte e.tolerance, e.tag.byte, fractionByte (q e.plan)] ++ entryBytes q (n + 1) rest

/-- The switch record in READ PLANS: FFh and FFh when absent (R182). -/
def switchBytes (w : Option SwitchRecord) : List Byte :=
  match w with
  | some w => [w.kind.byte, natByte w.position]
  | none => [0xFF, 0xFF]

/-- The body of READ PLANS (R115, R182). -/
def plansBody (s : State) (l : Lane) : List Byte :=
  let p := s.plans.get l
  [p.band.byte, p.state.byte, natByte p.attempts] ++ natHalf (s.grants.get l).edgeGuard ++ [mark p.settle.isSome] ++
    switchBytes p.switch ++ natByte p.stack.length :: entryBytes (s.planFraction l) 1 p.stack

/-- READ_PLANS at the Plan Stacks (R115). -/
def readPlansOwner (lane : Byte) (s : State) : State × Response :=
  withLane lane s fun l => (s, ⟨.done, plansBody s l⟩)

/-- The answer of EVAL for a candidate, against the lane's top (R115). -/
def evalAnswer (s : State) (l : Lane) (candidate : PlanSpan) (top : PlanEntry) : State × Response :=
  let q := s.planFraction l candidate
  let r := s.planFraction l top.plan
  (s, ⟨.done, [(compareFractions q r).byte, fractionByte q, fractionByte r]⟩)

/-- EVAL at the Plan Stacks (R115). -/
def evalOwner (lane : Byte) (target : EvalTarget) (s : State) : State × Response :=
  withLane lane s fun l =>
    let p := s.plans.get l
    match target with
    | .position n =>
      if n.toNat < 1 ∨ 6 < n.toNat then refuse s .badArgument
      else
        match p.top with
        | none => refuse s .emptyStack
        | some top =>
          match p.stack[n.toNat - 1]? with
          | some e => evalAnswer s l e.plan top
          | none => refuse s .notFound
    | .adHoc raw =>
      match planOf? raw with
      | none => refuse s .badArgument
      | some c =>
        if c.band ≠ p.band then refuse s .badArgument
        else
          match p.top with
          | none => refuse s .emptyStack
          | some top => evalAnswer s l c top

/-- ENABLE at the Plan Stacks (R117). -/
def enableOwner (lane : Byte) (s : State) : State × Response :=
  withLane lane s fun l =>
    let p := s.plans.get l
    if p.state ≠ .disabled then refuse s .refused
    else if p.stack.isEmpty then refuse s .emptyStack
    else ((s.sendWelcome l).restoreTop l, .done)

/-- DISABLE at the Plan Stacks (R118). -/
def disableOwner (lane : Byte) (s : State) : State × Response :=
  withLane lane s fun l =>
    if (s.plans.get l).state = .disabled then (s, .done) else (s.takeOutOfService l, .done)

/-- LANE_RESET: the link steps at the Lane Link Interface, then the restart at the Plan Stacks (R162, R119). -/
def laneResetOwner (lane : Byte) (s : State) : State × Response :=
  withLane lane s fun l => ((s.restartLink l).restartLane l, .done)

/-! ## The commands and events -/

/-- PUSH (R112). -/
def execPush (lane : Byte) (plan : RawPlan) (tolerance : Byte) (s : State) : Result :=
  transact (.push lane plan tolerance) s (pushOwner lane plan tolerance)

/-- POP (R113). -/
def execPop (lane : Byte) (s : State) : Result := transact (.pop lane) s (popOwner lane)

/-- CONTINUE (R114). -/
def execContinueLane (lane : Byte) (s : State) : Result := transact (.continueLane lane) s (continueOwner lane)

/-- READ_PLANS (R115). -/
def execReadPlans (lane : Byte) (s : State) : Result := transact (.readPlans lane) s (readPlansOwner lane)

/-- EVAL (R115). -/
def execEval (lane : Byte) (target : EvalTarget) (s : State) : Result :=
  transact (.eval lane target) s (evalOwner lane target)

/-- ENABLE (R117). -/
def execEnable (lane : Byte) (s : State) : Result := transact (.enable lane) s (enableOwner lane)

/-- DISABLE (R118). -/
def execDisable (lane : Byte) (s : State) : Result := transact (.disable lane) s (disableOwner lane)

/-- LANE_RESET (R119, R162). -/
def execLaneReset (lane : Byte) (s : State) : Result := transact (.laneReset lane) s (laneResetOwner lane)

/-- HELLO: the Plan Stacks take the held HELLO as the lane's restart (R119, R162). -/
def execHello (l : Lane) (s : State) : Result :=
  event s fun s =>
    if s.holds l .hello then
      let body := s.heldBody .pls l
      let s := s.emptyHolder l
      if body.isSome then s.restartLane l else s
    else s

/-- CADENCE_STATE_NOTICE (R29, R101). -/
def execCadenceStateNotice (s : State) : Result :=
  event s fun s => (s.taking .cadenceStateNotice).judgeAll

/-- CHANGE_NOTICE (R56, R101). -/
def execChangeNotice (slot : Slot) (s : State) : Result :=
  event s fun s => (s.taking (.changeNotice slot)).judgeAll

/-- GUARD_CHANGE_NOTICE (R101, R149). -/
def execGuardChangeNotice (l : Lane) (s : State) : Result :=
  event s fun s => (s.taking (.guardChangeNotice l)).judgeAll

/-- MODE_NOTICE (R101, R173). -/
def execModeNotice (s : State) : Result :=
  event s fun s => (s.taking .modeNotice).judgeAll

/-- DRAIN_NOTICE (R105). -/
def execDrainNotice (l : Lane) (s : State) : Result :=
  event s fun s => (s.taking (.drainNotice l)).takeDrain l

/-- SWITCH_DONE (R107, R110, R161). -/
def execSwitchDone (l : Lane) (s : State) : Result :=
  event s fun s => s.takeHeldAnswer l .switchDone fun s w => s.completeSwitch l w

/-- SWITCH_FAILED (R108, R110, R161). -/
def execSwitchFailed (l : Lane) (s : State) : Result :=
  event s fun s => s.takeHeldAnswer l .switchFailed fun s w => s.failSwitch l w

/-- SWITCH_TIMEOUT (R109). -/
def execSwitchTimeout (l : Lane) (s : State) : Result := event s fun s => s.expireSwitch l

/-- SETTLE_TIMER_EXPIRY (R111). -/
def execSettleTimerExpiry (l : Lane) (s : State) : Result := event s fun s => s.expireSettle l

/-- STEERING_REQUEST (R90). -/
def execSteeringRequest (r : SteeringRequest) (s : State) : Result :=
  event s fun s =>
    (s.taking (.steeringRequest r)).hand .pls (.steeringResult ⟨r.slot, r.primary, r.home, s.steer r⟩)

end Sys2Proof.Machine
end

