-- ==== Sys2Proof/Machine/Stations.lean ====
section
/-! DEFINITION. The Station Table (R79 to R92): lookup, host commands, counter claims and steering results. -/

namespace Sys2Proof.Machine

open Sys2Proof

/-! ## Slots and addresses (R79, R82, R83) -/

/-- What a station slot byte names: the group record, a slot from 1 to 63, or nothing (R79, R85 to R87). -/
inductive StationRef where
  | group
  | slot (k : StationSlot)
  | outside
  deriving DecidableEq, Repr

def StationRef.ofByte (b : Byte) : StationRef :=
  if b = 0 then .group
  else if h : b.toNat - 1 < 63 then .slot ⟨b.toNat - 1, h⟩
  else .outside

/-- The number of a station slot, 1 to 63. -/
def stationNumber (k : StationSlot) : Nat := k.val + 1

/-- A station slot as a member of the advised-station set (R179, R183). -/
def stationBit (k : StationSlot) : BitVec 64 := 1#64 <<< (stationNumber k)

/-- The record carries the address as primary or as alias. -/
def Station.uses (r : Station) (a : Address) : Bool := r.primary == a || r.aliasAddr == some a

namespace State

/-- The record in a slot that has the primary address, if there is one. -/
def findPrimary (s : State) (a : Address) : Option StationSlot :=
  (List.finRange 63).find? fun k => (s.stations[k]).any (·.primary == a)

/-- The record in a slot that has the alias address, if there is one. -/
def findAlias (s : State) (a : Address) : Option StationSlot :=
  (List.finRange 63).find? fun k => (s.stations[k]).any (·.aliasAddr == some a)

/-- The address is in use by an ADMITTED record (R82). -/
def inUse (s : State) (a : Address) : Bool :=
  (List.finRange 63).any fun k => (s.stations[k]).any (·.uses a)

/-- The address is in use by an ADMITTED record other than the one in the slot (R85). -/
def inUseElsewhere (s : State) (slot : StationSlot) (a : Address) : Bool :=
  (List.finRange 63).any fun k => k != slot && (s.stations[k]).any (·.uses a)

/-- The lowest-numbered FREE slot (R84). -/
def freeStation (s : State) : Option StationSlot :=
  (List.finRange 63).find? fun k => (s.stations[k]).isNone

end State

/-- The result of a lookup, with the role in which an admitted address matched (R83, R87). -/
inductive Lookup where
  | group
  | station (k : StationSlot) (byAlias : Bool)
  | stranger
  deriving DecidableEq, Repr

/-- The lookup (R83). -/
def State.lookup (s : State) (a : Address) : Lookup :=
  if a.isGroup then .group
  else
    match s.findPrimary a with
    | some k => .station k false
    | none =>
      match s.findAlias a with
      | some k => .station k true
      | none => .stranger

/-! ## The advised-station set (R92) -/

namespace State

/-- The slot leaves the advised-station set, if present, as its record's advice is cleared (R92). -/
def unadvise (s : State) (k : StationSlot) : State :=
  if s.crossesReset .stb .cpa then s else s.setAdvised (s.advised &&& ~~~ stationBit k)

/-- The slot enters the advised-station set (R92). -/
def advise (s : State) (k : StationSlot) : State :=
  if s.crossesReset .stb .cpa then s else s.setAdvised (s.advised ||| stationBit k)

end State

/-! ## Argument checks (R84, R85) -/

/-- A floor airtime, 50 to 2,000 (R84). -/
def floorOk (x : Half) : Bool := decide (50 ≤ x.toNat) && decide (x.toNat ≤ 2000)

/-- The record an ADMIT would place, when its checks 1 and 2 pass (R84, Table 5-1). -/
def admitted? (a : AdmitArgs) : Option Station :=
  match BandSet.ofByte? a.bands, Width.ofByte? a.width, Lane.ofByte? a.home with
  | some bands, some width, some home =>
    if !a.primary.isGroup && !a.aliasAddr.any (·.isGroup) && a.floor.all floorOk then
      some { primary := a.primary, aliasAddr := a.aliasAddr, bands := bands, width := width, home := home,
             floor := (a.floor.map (·.toNat)).getD 200, lossStreak := 0, okRun := 0, condition := .normal,
             advice := none }
    else none
  | _, _, _ => none

/-- A given field read by its encoding: the field held when omitted, none when given and invalid. -/
def givenField {α : Type} (held : α) (read : Byte → Option α) (given : Option Byte) : Option α :=
  match given with
  | none => some held
  | some b => read b

/-- The alias after a station AMEND, without its DUPLICATE check; none when a group address is given (R85). -/
def givenAlias (held : Option Address) (g : Given Address) : Option (Option Address) :=
  match g with
  | .omitted => some held
  | .value a => if a.isGroup then none else some (some a)
  | .remove => some none

/-- The record after a station AMEND whose check 4 passes; a home lane changed to a different lane clears the advice
(R85). -/
def amendedStation? (r : Station) (a : StationAmendArgs) : Option Station :=
  match givenAlias r.aliasAddr a.aliasAddr, givenField r.bands BandSet.ofByte? a.bands,
      givenField r.width Width.ofByte? a.width, givenField r.home Lane.ofByte? a.home with
  | some second, some bands, some width, some home =>
    if a.floor.all floorOk then
      some { r with
        aliasAddr := second, bands := bands, width := width, home := home
        floor := (a.floor.map (·.toNat)).getD r.floor
        advice := if home = r.home then r.advice else none }
    else none
  | _, _, _, _ => none

/-- The given alias equals the record's primary address, or another record uses it: check 5 of R85. -/
def aliasTaken (s : State) (k : StationSlot) (r : Station) (g : Given Address) : Bool :=
  match g with
  | .omitted => false
  | .value a => a == r.primary || s.inUseElsewhere k a
  | .remove => false

/-! ## The commands as events of the table -/

/-- The checks of R85 and R86 on a slot, in their order: BAD_ARGUMENT, REFUSED for slot 0, NOT_FOUND. -/
def withStation (slot : Byte) (s : State) (f : StationSlot → Station → State × Response) : State × Response :=
  match StationRef.ofByte slot with
  | .outside => refuse s .badArgument
  | .group => refuse s .refused
  | .slot k =>
    match s.stations[k] with
    | none => refuse s .notFound
    | some r => f k r

/-- ADMIT at the table (R84). -/
def admitOwner (a : AdmitArgs) (s : State) : State × Response :=
  match admitted? a with
  | none => refuse s .badArgument
  | some r =>
    if a.aliasAddr = some a.primary || s.inUse a.primary || a.aliasAddr.any s.inUse then refuse s .duplicate
    else
      match s.freeStation with
      | none => refuse s .full
      | some k => (s.setStation k (some r), ⟨.done, [natByte (stationNumber k)]⟩)

/-- AMEND at the table (R85). -/
def stationAmendOwner (a : StationAmendArgs) (s : State) : State × Response :=
  withStation a.slot s fun k r =>
    match amendedStation? r a with
    | none => refuse s .badArgument
    | some r' =>
      if aliasTaken s k r a.aliasAddr then refuse s .duplicate
      else
        let t := s.setStation k (some r')
        (if r'.home = r.home then t else t.unadvise k, .done)

/-- RELEASE at the table (R86). -/
def releaseOwner (slot : Byte) (s : State) : State × Response :=
  withStation slot s fun k _ => ((s.setStation k none).unadvise k, .done)

/-- The alias of a record in a response: presence, then the address (R183). -/
def aliasBytes (a : Option Address) : List Byte :=
  match a with
  | some a => 1 :: addressBytes a
  | none => [0]

/-- The body of a station READ of an ADMITTED slot (R87, R183). -/
def stationBody (k : StationSlot) (r : Station) : List Byte :=
  natByte (stationNumber k) :: addressBytes r.primary ++ aliasBytes r.aliasAddr ++
    [r.bands.byte, r.width.byte, r.home.byte] ++ natHalf r.floor ++
    [natByte r.lossStreak, natByte r.okRun, r.condition.byte, optLaneByte r.advice]

/-- The body of a station READ of slot 0: the group record of R81, whose floor is STRANGER_FLOOR (R183). -/
def groupBody (s : State) : List Byte :=
  [0, 0, 0, BandSet.both.byte, Width.w20.byte, 0xFF] ++ natHalf s.params.strangerFloor ++
    [0, 0, Condition.normal.byte, 0xFF]

/-- READ at the table (R87). -/
def stationReadOwner (slot : Byte) (s : State) : State × Response :=
  match StationRef.ofByte slot with
  | .outside => refuse s .badArgument
  | .group => (s, ⟨.done, groupBody s⟩)
  | .slot k =>
    match s.stations[k] with
    | none => refuse s .notFound
    | some r => (s, ⟨.done, stationBody k r⟩)

/-- FIND at the table (R87, R183): the slot, then the role. -/
def findOwner (a : Address) (s : State) : State × Response :=
  match s.lookup a with
  | .group => (s, ⟨.done, [0, 2]⟩)
  | .station k byAlias => (s, ⟨.done, [natByte (stationNumber k), mark byAlias]⟩)
  | .stranger => refuse s .notFound

/-! ## Counter claims and steering results (R88 to R91) -/

/-- A record after an OK counter claim (R88). -/
def Station.creditOk (r : Station) (recoverRun : Nat) : Station :=
  let run := min 15 (r.okRun + 1)
  if r.condition = .strained ∧ recoverRun ≤ run then
    { r with lossStreak := 0, okRun := run, condition := .normal, advice := none }
  else { r with lossStreak := 0, okRun := run }

/-- A record after a LOST counter claim (R89). -/
def Station.chargeLoss (r : Station) (strainLosses : Nat) : Station :=
  let streak := min 15 (r.lossStreak + 1)
  { r with
    lossStreak := streak
    okRun := 0
    condition := if strainLosses ≤ streak then .strained else r.condition }

/-- The steering request of a record that has become STRAINED (R90). -/
def steeringRequestOf (k : StationSlot) (r : Station) : SteeringRequest :=
  ⟨k, r.primary, r.home, r.bands, r.width⟩

namespace State

/-- A counter claim on the ADMITTED record with that primary address, if there is one (R88, R89). -/
def counterClaim (s : State) (a : Address) (result : ClaimResult) : State :=
  match s.findPrimary a with
  | none => s
  | some k =>
    match s.stations[k] with
    | none => s
    | some r =>
      match result with
      | .ok =>
        let r' := r.creditOk s.params.recoverRun
        let t := s.setStation k (some r')
        if r'.condition = r.condition then t else t.unadvise k
      | .lost =>
        let r' := r.chargeLoss s.params.strainLosses
        let t := s.setStation k (some r')
        if r'.condition = r.condition then t else t.hand .stb (.steeringRequest (steeringRequestOf k r))

/-- A steering result at the table (R91). -/
def applySteering (s : State) (x : SteeringResult) : State :=
  match s.stations[x.slot] with
  | none => s
  | some r =>
    if r.primary = x.primary ∧ r.condition = .strained ∧ r.home = x.home then
      match x.named with
      | some l => (s.setStation x.slot (some { r with advice := some l })).advise x.slot
      | none => s
    else s

end State

/-- ADMIT (R84). -/
def execAdmitStation (a : AdmitArgs) (s : State) : Result := transact (.admitStation a) s (admitOwner a)

/-- STATION_AMEND (R85). -/
def execStationAmend (a : StationAmendArgs) (s : State) : Result := transact (.stationAmend a) s (stationAmendOwner a)

/-- RELEASE (R86). -/
def execRelease (slot : Byte) (s : State) : Result := transact (.release slot) s (releaseOwner slot)

/-- STATION_READ (R87). -/
def execStationRead (slot : Byte) (s : State) : Result := transact (.stationRead slot) s (stationReadOwner slot)

/-- FIND (R87). -/
def execFind (a : Address) (s : State) : Result := transact (.find a) s (findOwner a)

/-- COUNTER_CLAIM (R88, R89). -/
def execCounterClaim (a : Address) (result : ClaimResult) (s : State) : Result :=
  event s fun s => (s.taking (.counterClaim a result)).counterClaim a result

/-- STEERING_RESULT (R91). -/
def execSteeringResult (x : SteeringResult) (s : State) : Result :=
  event s fun s => (s.taking (.steeringResult x)).applySteering x

end Sys2Proof.Machine
end

