-- ==== Sys2Proof/Machine/Grants.lean ====
section
/-! DEFINITION. The Grant Engine (R121 to R149): the arbiter, the evaluation of a query, outcomes and expiry. -/

namespace Sys2Proof.Machine

open Sys2Proof

/-! ## Station terms, guard and earliest start (R127 to R129) -/

/-- What stage 3 takes from the lookup (Table 5-2), with the two flags decided there. -/
structure Terms where
  cls : GrantClass
  floor : Nat
  width : Width
  stranger : Bool
  strained : Bool
  deriving DecidableEq, Repr

/-- Stage 3 (R127). -/
def State.terms (s : State) (a : Address) : Terms :=
  match s.lookup a with
  | .group => ⟨.group, s.params.strangerFloor, .w20, false, false⟩
  | .stranger => ⟨.stranger, s.params.strangerFloor, .w20, true, false⟩
  | .station k _ =>
    match s.stations[k] with
    | some r => ⟨.primary r.primary, r.floor, r.width, false, r.condition == .strained⟩
    | none => ⟨.stranger, s.params.strangerFloor, .w20, true, false⟩

/-- The window [start, start + cap) of a grant (R141). -/
def Grant.window (g : Grant) : Window := ⟨g.start, g.cap⟩

/-- Stage 5: the earliest start E (R129). -/
def State.earliestStart (s : State) (l : Lane) : AirTime :=
  let lead := after s.airTime s.params.grantLead
  match (s.grants.get l).outstanding.getLast? with
  | some other => laterOf lead other.window.finish
  | none => lead

/-- Stage 4: the guard of the evaluation (R128). -/
def State.guardFor (s : State) (l : Lane) (strained : Bool) : Nat :=
  if strained then 2 * (s.grants.get l).edgeGuard else (s.grants.get l).edgeGuard

/-! ## The predicted search (R131 to R134) -/

/-- The window of length d that starts at offset x from the reference meets no blocking window. -/
def isClear (p : Nat) (arcs : List Arc) (x : Int) (d : Nat) : Bool :=
  arcs.all fun a => !a.meets p ⟨x, d⟩

/-- The least of a list of offsets. -/
def least : List Nat → Option Nat
  | [] => none
  | x :: xs =>
    match least xs with
    | none => some x
    | some y => some (min x y)

/-- The smallest t from 0 to P − 1 at which a window of Dmin is clear: it is 0 or the end of a blocking window (R132).
base is the offset of E from the reference. -/
def searchOffset (p : Nat) (arcs : List Arc) (base : Int) (d : Nat) : Option Nat :=
  least ((0 :: arcs.map fun a => onCircle p (a.start + a.length - base)).filter fun t => isClear p arcs (base + t) d)

/-- The cap: the lesser of D and the distance from T to the start of the first blocking window after it (R134). -/
def capAt (p : Nat) (arcs : List Arc) (x : Int) (d : Nat) : Nat :=
  arcs.foldl (fun m a => min m (onCircle p (a.start - x))) d

/-- A start, a cap and a span that an evaluation grants, with the NARROWED flag. -/
structure Offer where
  start : AirTime
  cap : Nat
  span : PlanSpan
  narrowed : Bool
  deriving DecidableEq, Repr

/-- T(C) as an offset from E, for the candidate span C (R132). The lane's other window ends at or before E and blocks no
start from E onward. -/
def State.searchSpan (s : State) (p : Prediction) (e : AirTime) (c : PlanSpan) (g dmin : Nat) : Option Nat :=
  searchOffset p.period (s.blockingArcs c.span g) (signedDiff p.reference e) dmin

/-- The offer at an offset t from E on a span (R134). -/
def State.offerAt (s : State) (p : Prediction) (e : AirTime) (c : PlanSpan) (g d t : Nat) (narrowed : Bool) : Offer :=
  ⟨after e t, capAt p.period (s.blockingArcs c.span g) (signedDiff p.reference e + t) d, c, narrowed⟩

/-- The full width is open to the query: the top plan is 40 MHz and so is the station's capability (R130, R133). -/
def fullWidth (top : PlanSpan) (w : Width) : Bool := top.width == .w40 && w == .w40

/-- Stage 7: the span searched and granted; none is BLOCKED (R133, R135). -/
def State.predictedOffer (s : State) (p : Prediction) (e : AirTime) (top : PlanSpan) (w : Width) (g d dmin : Nat) :
    Option Offer :=
  match s.searchSpan p e top.primaryHalf g dmin with
  | none => none
  | some pri =>
    if fullWidth top w then
      if s.searchSpan p e top g dmin = some pri then some (s.offerAt p e top g d pri false)
      else some (s.offerAt p e top.primaryHalf g d pri true)
    else some (s.offerAt p e top.primaryHalf g d pri false)

/-- Stage 6: GO at E with cap D (R130). -/
def openOffer (e : AirTime) (top : PlanSpan) (w : Width) (d : Nat) : Offer :=
  ⟨e, d, if fullWidth top w then top else top.primaryHalf, false⟩

/-- Stages 6 and 7: the prediction is used while the tracker is predicting and the mode is RUN (R130). -/
def State.offer (s : State) (e : AirTime) (top : PlanSpan) (w : Width) (g d dmin : Nat) : Option Offer :=
  match s.tracker.prediction, s.mode with
  | some p, .run => s.predictedOffer p e top w g d dmin
  | some _, .bypass => some (openOffer e top w d)
  | none, _ => some (openOffer e top w d)

/-- The flags of an answer (Table 7-6). -/
def State.goFlags (s : State) (t : Terms) (narrowed : Bool) : GoFlags where
  stranger := t.stranger
  strained := t.strained
  narrowed := narrowed
  holdover := s.tracker.state == .holdover
  unpredicted := !s.tracker.predicting
  bypass := s.mode == .bypass

/-- The id a GO takes: the lane's next id, or the one after it when the other outstanding grant holds that (R138). -/
def GrantLane.takeId (g : GrantLane) : Byte :=
  if g.outstanding.any (·.id == g.nextId) then g.nextId + 1 else g.nextId

/-- The grant that a GO creates (R137). -/
def State.grantOf (s : State) (l : Lane) (t : Terms) (g : Nat) (o : Offer) : Grant where
  id := (s.grants.get l).takeId
  cls := t.cls
  span := o.span
  start := o.start
  cap := o.cap
  guard := g
  flags := s.goFlags t o.narrowed
  expiry := after o.start (o.cap + s.params.expiryMargin)

namespace State

/-- A GRANT answer goes to the lane's link. -/
def answerQuery (s : State) (l : Lane) (m : OutMsg) : State := s.sendOut .gre l m

/-- A GO and the outstanding grant it creates come into being together (R124, R137, R138). -/
def issue (s : State) (l : Lane) (x : Grant) : State :=
  (s.setGrant l { s.grants.get l with
    outstanding := (s.grants.get l).outstanding ++ [x], nextId := x.id + 1 }).answerQuery l
      (.go x.id x.start x.cap x.span x.flags)

/-- Stages 3 to 7 on the top plan of a lane that passed stages 1 and 2 (R127 to R138). -/
def grantQuery (s : State) (l : Lane) (top : PlanSpan) (q : Query) : State :=
  let t := s.terms q.addr
  let g := s.guardFor l t.strained
  match s.offer (s.earliestStart l) top t.width g q.airtime (min q.airtime t.floor) with
  | some o => s.issue l (s.grantOf l t g o)
  | none => s.answerQuery l (.blocked (s.goFlags t false))

/-- The evaluation of a query that passes R123 (R124 to R138). A SETTLED lane has a top plan (R125). -/
def evaluate (s : State) (l : Lane) (q : Query) : State :=
  match (s.plans.get l).state with
  | .disabled => s.answerQuery l (.refused .disabled)
  | .draining => s.answerQuery l (.refused .switching)
  | .switching => s.answerQuery l (.refused .switching)
  | .unsynced => s.answerQuery l (.refused .switching)
  | .halted => s.answerQuery l (.refused .halted)
  | .settled =>
    if Config.grantSlots ≤ (s.grants.get l).outstanding.length then s.answerQuery l (.refused .tooMany)
    else
      match (s.plans.get l).top with
      | some e => s.grantQuery l e.plan q
      | none => s

/-- The lanes in the arbiter's order after its position (R122). -/
def arbiterOrder (s : State) : List Lane :=
  match s.arbiter with
  | .l0 => [.l1, .l2, .l0]
  | .l1 => [.l2, .l0, .l1]
  | .l2 => [.l0, .l1, .l2]

/-- The lane whose QUERY the arbiter takes (R122). -/
def queryLane (s : State) : Option Lane := s.arbiterOrder.find? fun l => s.holds l .query

/-- The arbiter takes the QUERY of a lane, and the evaluator checks and evaluates it whole (R122 to R124). -/
def takeQuery (s : State) (l : Lane) : State :=
  let body := s.heldBody .gre l
  let s := s.emptyHolder l
  match body with
  | none => s
  | some body =>
    let s := { s with arbiter := l }
    match parseQuery body with
    | some q => s.evaluate l q
    | none => s.sendOut .gre l (.nak .malformed InKind.query.byte)

/-! ## Outcomes and expiry (R144 to R149) -/

/-- A counter claim for a grant that stores a primary address; group and stranger grants give none (R88). -/
def claimFor (s : State) (x : Grant) (r : ClaimResult) : State :=
  match x.cls with
  | .primary a => s.hand .gre (.counterClaim a r)
  | .stranger => s
  | .group => s

/-- The edge-loss test, on the tracker and the table as they stand (R148). -/
def edgeLoss (s : State) (x : Grant) : Bool :=
  match s.tracker.prediction with
  | none => false
  | some p =>
    (s.blockingArcs x.span.span x.guard).any fun a =>
      a.meets p.period ⟨signedDiff p.reference x.start - 2 * x.guard, x.cap + 4 * x.guard⟩

/-- An OK outcome on the lane's OK run and edge guard (R147). -/
def creditLane (s : State) (l : Lane) : State :=
  let g := s.grants.get l
  if s.params.guardRelaxRun ≤ g.okRun + 1 then
    (s.setOkRun l 0).moveGuard l (max (g.edgeGuard - s.params.guardStep) s.params.guardFloor)
  else s.setOkRun l (g.okRun + 1)

/-- A LOST outcome on the lane's OK run and edge guard (R148). -/
def chargeLane (s : State) (l : Lane) (x : Grant) : State :=
  let s := s.setOkRun l 0
  if s.edgeLoss x then s.moveGuard l (min ((s.grants.get l).edgeGuard + s.params.guardStep) s.params.guardCeiling)
  else s

def Outcome.code (r : Outcome) : ClosingCode :=
  match r with
  | .ok => .ok
  | .lost => .lost
  | .abandoned => .abandoned

/-- The effects of a closure by OUTCOME on counters and guard, in the order their messages are handed (R147 to R149). -/
def settleOutcome (s : State) (l : Lane) (x : Grant) (r : Outcome) : State :=
  match r with
  | .ok => (s.claimFor x .ok).creditLane l
  | .lost => (s.claimFor x .lost).chargeLane l x
  | .abandoned => s

/-- A well-formed OUTCOME at the lane's grant state (R144): the answer, the counter claim, the guard-change notice and
the drain notice are handed in this order (R149). -/
def applyOutcome (s : State) (l : Lane) (o : OutcomeReport) : State :=
  match s.findGrant l o.id with
  | none => s.sendOut .gre l (.outcomeAnswer .tooLate o.id)
  | some x =>
    (((s.removeGrant l o.id (Outcome.code o.result) (some o.used)).sendOut .gre l (.outcomeAnswer .accepted o.id)).settleOutcome
      l x o.result).noticeDrain l

/-- The OUTCOME held on a lane is taken at the lane's grant state (R144). -/
def takeOutcome (s : State) (l : Lane) : State :=
  let body := s.heldBody .gre l
  let s := s.emptyHolder l
  match body with
  | none => s
  | some body =>
    match parseOutcome body with
    | some o => s.applyOutcome l o
    | none => s.sendOut .gre l (.nak .malformed InKind.outcome.byte)

/-- The expiry timer of a grant reaches its deadline: the grant closes as EXPIRED (R146). -/
def expireGrant (s : State) (l : Lane) (id : Byte) : State :=
  match s.findGrant l id with
  | none => s
  | some x =>
    if atOrAfter s.airTime x.expiry then (s.removeGrant l id .expired none).noticeDrain l else s

end State

/-- QUERY (R122 to R138): with no QUERY held there is nothing to take. -/
def execQuery (s : State) : Result :=
  event s fun s =>
    match s.queryLane with
    | some l => s.takeQuery l
    | none => s

/-- OUTCOME (R144 to R149): with no OUTCOME held there is nothing to take. -/
def execOutcome (l : Lane) (s : State) : Result :=
  event s fun s => if s.holds l .outcome then s.takeOutcome l else s

/-- GRANT_EXPIRY (R146). -/
def execGrantExpiry (l : Lane) (id : Byte) (s : State) : Result := event s fun s => s.expireGrant l id

end Sys2Proof.Machine
end

