-- ==== Sys2Proof/Machine/Ticks.lean ====
section
/-! DEFINITION. The passing of air time and TICK (R6, R11), and what is taken before any more time passes: an expiry at its
deadline (R10) and an OUTCOME as soon as it is held (R144, R161). -/

namespace Sys2Proof.Machine

open Sys2Proof

/-- An event that is taken before the air time moves on. -/
inductive Prompt where
  | holdoverExpiry
  | grantExpiry (l : Lane) (id : Byte)
  | switchTimeout (l : Lane)
  | settleTimerExpiry (l : Lane)
  | outcome (l : Lane)
  deriving DecidableEq, Repr

/-- The row of the table that it is. -/
def Prompt.toInstr (p : Prompt) : Instr :=
  match p with
  | .holdoverExpiry => .holdoverExpiry
  | .grantExpiry l id => .grantExpiry l id
  | .switchTimeout l => .switchTimeout l
  | .settleTimerExpiry l => .settleTimerExpiry l
  | .outcome l => .outcome l

namespace State

/-! ## Deadlines (R10) -/

/-- The deadlines of a lane's running timers. -/
def laneDeadlines (s : State) (l : Lane) : List AirTime :=
  (s.grants.get l).outstanding.map (·.expiry) ++
    (if (s.plans.get l).state.inFlight then (s.plans.get l).timeout.toList else []) ++ (s.plans.get l).settle.toList

/-- The deadlines of the running timers. -/
def deadlines (s : State) : List AirTime :=
  (if s.tracker.predicting then s.tracker.holdover.toList else []) ++ Lane.all.flatMap s.laneDeadlines

/-- The expiries of a lane's timers whose deadline the air time has reached. -/
def lanePrompts (s : State) (l : Lane) : List Prompt :=
  ((s.grants.get l).outstanding.filter fun g => atOrAfter s.airTime g.expiry).map (fun g => .grantExpiry l g.id) ++
    (if (s.plans.get l).state.inFlight && reached s.airTime (s.plans.get l).timeout then [.switchTimeout l] else []) ++
    (if reached s.airTime (s.plans.get l).settle then [.settleTimerExpiry l] else []) ++
    if s.holds l .outcome then [.outcome l] else []

/-- What is taken before any more time passes: the timers that are due and the OUTCOMEs held. -/
def prompts (s : State) : List Prompt :=
  (if s.tracker.predicting && reached s.airTime s.tracker.holdover then [.holdoverExpiry] else []) ++
    Lane.all.flatMap s.lanePrompts

/-- A prompt event is taken. -/
def takePrompt (s : State) (p : Prompt) : State :=
  match p with
  | .holdoverExpiry => s.expireHoldover
  | .grantExpiry l id => s.expireGrant l id
  | .switchTimeout l => s.expireSwitch l
  | .settleTimerExpiry l => s.expireSettle l
  | .outcome l => if s.holds l .outcome then s.takeOutcome l else s

/-! ## The free choice (log entry 2) -/

/-- The count of choices moves when there was one to make. -/
def chose (s : State) (alternatives : Nat) : State :=
  if alternatives ≤ 1 then s else { s with choices := s.choices + 1 }

/-- The index chosen among some alternatives: 0 when there is no choice to make. -/
def choice (s : State) (alternatives : Nat) : Nat :=
  if alternatives ≤ 1 then 0 else Config.choice s.choices % alternatives

/-! ## Time (R6, R11) -/

/-- TICK as the air time takes a value: driven high at a multiple of 1,024, for 4 µs (R11). -/
def tickAt (t : AirTime) (tick : Bool) : Bool :=
  if t.toNat % Config.tickPeriod = 0 then true
  else tick && decide (t.toNat % Config.tickPeriod < Config.tickWidth)

/-- One microsecond passes (R6). -/
def passMicrosecond (s : State) : State :=
  { s with airTime := s.airTime + 1, tick := tickAt (s.airTime + 1) s.tick }

/-- Some microseconds pass, no further than the next multiple of 1,024. -/
def pass (s : State) (n : Nat) : State :=
  { s with airTime := after s.airTime n, tick := tickAt (after s.airTime n) s.tick }

/-- The microseconds from an air time to the next multiple of 1,024 (R11). -/
def tickDistance (t : AirTime) : Nat := Config.tickPeriod - t.toNat % Config.tickPeriod

/-- The microseconds that pass before the next multiple of 1,024 or the next deadline, whichever comes first. -/
def quiet (s : State) : Nat :=
  s.deadlines.foldl (fun n d => min n (d - s.airTime).toNat) (tickDistance s.airTime)

/-- Time passes to the next multiple of 1,024, and every prompt event met on the way is taken in its microsecond. The
rounds given are enough for every state that a run reaches; were they not, time would pass to the multiple at once (log
entries 4 and 15). -/
def toNextTick (rounds : Nat) (s : State) : State :=
  match rounds with
  | 0 => s.pass (tickDistance s.airTime)
  | n + 1 =>
    match s.prompts with
    | [] =>
      if s.quiet = tickDistance s.airTime then s.pass (tickDistance s.airTime) else (s.pass s.quiet).toNextTick n
    | p :: ps =>
      (((s.chose (p :: ps).length).takePrompt ((p :: ps)[s.choice (p :: ps).length]?.getD p))).toNextTick n

end State

/-- TICK (R11): the air time comes to the next multiple of 1,024. -/
def execTick (s : State) : Result := event s (State.toNextTick Config.tickRounds)

end Sys2Proof.Machine
end

