-- ==== Sys2Proof/Machine/Dispatch.lean ====
section
/-! DEFINITION. exec: one arm for each command, each one direct call of its meaning. -/

namespace Sys2Proof.Machine

open Sys2Proof

def exec (i : Instr) (s : State) : Host.Outcome State Fault Refusal :=
  match i with
  | .powerOnReset => Sys2Proof.Machine.execPowerOnReset s
  | .resetRelease => Sys2Proof.Machine.execResetRelease s
  | .tick => Sys2Proof.Machine.execTick s
  | .softReset => Sys2Proof.Machine.execSoftReset s
  | .softResetBlock b => Sys2Proof.Machine.execSoftResetBlock b s
  | .laneMessageArrival l e => Sys2Proof.Machine.execLaneMessageArrival l e s
  | .helloArrival l => Sys2Proof.Machine.execHelloArrival l s
  | .hello l => Sys2Proof.Machine.execHello l s
  | .outboundSend l => Sys2Proof.Machine.execOutboundSend l s
  | .query => Sys2Proof.Machine.execQuery s
  | .outcome l => Sys2Proof.Machine.execOutcome l s
  | .grantExpiry l id => Sys2Proof.Machine.execGrantExpiry l id s
  | .counterClaim primary result => Sys2Proof.Machine.execCounterClaim primary result s
  | .survey => Sys2Proof.Machine.execSurvey s
  | .riseReport slot rise => Sys2Proof.Machine.execRiseReport slot rise s
  | .anchorMissReport slot => Sys2Proof.Machine.execAnchorMissReport slot s
  | .holdoverExpiry => Sys2Proof.Machine.execHoldoverExpiry s
  | .cadenceStateNotice => Sys2Proof.Machine.execCadenceStateNotice s
  | .changeNotice slot => Sys2Proof.Machine.execChangeNotice slot s
  | .guardChangeNotice l => Sys2Proof.Machine.execGuardChangeNotice l s
  | .modeNotice => Sys2Proof.Machine.execModeNotice s
  | .drainNotice l => Sys2Proof.Machine.execDrainNotice l s
  | .switchDone l => Sys2Proof.Machine.execSwitchDone l s
  | .switchFailed l => Sys2Proof.Machine.execSwitchFailed l s
  | .switchTimeout l => Sys2Proof.Machine.execSwitchTimeout l s
  | .settleTimerExpiry l => Sys2Proof.Machine.execSettleTimerExpiry l s
  | .steeringRequest r => Sys2Proof.Machine.execSteeringRequest r s
  | .steeringResult r => Sys2Proof.Machine.execSteeringResult r s
  | .attentionSetRequest f => Sys2Proof.Machine.execAttentionSetRequest f s
  | .checkFailed sdi => Sys2Proof.Machine.execCheckFailed sdi s
  | .notReady => Sys2Proof.Machine.execNotReady s
  | .unknownCommand code body => Sys2Proof.Machine.execUnknownCommand code body s
  | .nop => Sys2Proof.Machine.execNop s
  | .place a => Sys2Proof.Machine.execPlace a s
  | .interfererAmend a => Sys2Proof.Machine.execInterfererAmend a s
  | .pin slot => Sys2Proof.Machine.execPin slot s
  | .unpin slot => Sys2Proof.Machine.execUnpin slot s
  | .retire slot => Sys2Proof.Machine.execRetire slot s
  | .interfererRead slot => Sys2Proof.Machine.execInterfererRead slot s
  | .scan => Sys2Proof.Machine.execScan s
  | .admitStation a => Sys2Proof.Machine.execAdmitStation a s
  | .stationAmend a => Sys2Proof.Machine.execStationAmend a s
  | .release slot => Sys2Proof.Machine.execRelease slot s
  | .stationRead slot => Sys2Proof.Machine.execStationRead slot s
  | .find addr => Sys2Proof.Machine.execFind addr s
  | .push lane plan tolerance => Sys2Proof.Machine.execPush lane plan tolerance s
  | .pop lane => Sys2Proof.Machine.execPop lane s
  | .continueLane lane => Sys2Proof.Machine.execContinueLane lane s
  | .readPlans lane => Sys2Proof.Machine.execReadPlans lane s
  | .eval lane target => Sys2Proof.Machine.execEval lane target s
  | .enable lane => Sys2Proof.Machine.execEnable lane s
  | .disable lane => Sys2Proof.Machine.execDisable lane s
  | .laneReset lane => Sys2Proof.Machine.execLaneReset lane s
  | .readLane lane => Sys2Proof.Machine.execReadLane lane s
  | .setParameter number qualifier value => Sys2Proof.Machine.execSetParameter number qualifier value s
  | .getParameter number qualifier => Sys2Proof.Machine.execGetParameter number qualifier s
  | .setMode mode => Sys2Proof.Machine.execSetMode mode s
  | .status => Sys2Proof.Machine.execStatus s
  | .readAttention => Sys2Proof.Machine.execReadAttention s
  | .clearAttention flags => Sys2Proof.Machine.execClearAttention flags s
  | .takeChanges => Sys2Proof.Machine.execTakeChanges s
  | .receptionRestartAfterIdleGap l => Sys2Proof.Machine.execReceptionRestartAfterIdleGap l s

end Sys2Proof.Machine
end

