-- ==== Sys2Proof/Machine/Autonomy.lean ====
section
/-! DEFINITION. What the part does of its own accord when no command waits: the events that are ready, the free choice
among them, and the passing of time (R10, R31, R120, R139, R152, R166, R168; log entries 2 and 3); and one transaction of
the control port from its bits. -/

namespace Sys2Proof.Machine

open Sys2Proof

/-- One thing that may happen next: an event, the completion of the command in execution, or the passing of one
microsecond. -/
inductive Happening where
  | event (i : Instr)
  | completion
  | microsecond
  deriving DecidableEq, Repr

namespace State

/-- The takes of held messages that are ready; the arbiter and the intake each choose one lane (R59, R122, R161). -/
def readyTakes (s : State) : List Instr :=
  (if s.queryLane.isSome then [.query] else []) ++ (if s.surveyLane.isSome then [.survey] else []) ++
    Lane.all.flatMap fun l =>
      (if s.holds l .switchDone then [.switchDone l] else []) ++
        (if s.holds l .switchFailed then [.switchFailed l] else []) ++ if s.holds l .hello then [.hello l] else []

/-- The lanes whose queue has a message to send (R163). -/
def readySends (s : State) : List Instr :=
  Lane.all.flatMap fun l => if (s.links.get l).outbound.isEmpty then [] else [.outboundSend l]

/-- The events that are ready in the part. -/
def readyEvents (s : State) : List Instr :=
  s.prompts.map Prompt.toInstr ++ s.handed.map Handed.toInstr ++ s.resets.map .softResetBlock ++ s.readyTakes ++
    s.readySends

/-- What may happen next of the part's own accord. Time does not pass a due timer (R10) nor an OUTCOME that is held
(R161). -/
def happenings (s : State) : List Happening :=
  s.readyEvents.map .event ++ (if s.answer.isSome then [.completion] else []) ++
    if s.prompts.isEmpty then [.microsecond] else []

/-- One of the things that may happen next takes place. -/
def happen (h : Happening) (s : State) : Result :=
  match h with
  | .event i => exec i s
  | .completion => .next ((s.answer.map s.completed).getD s)
  | .microsecond => .next s.passMicrosecond

/-- The part's own next step: the only thing that may happen, or the free choice among several (log entry 2). While
RESET_N is low nothing happens. -/
def autonomous (s : State) : Result :=
  if s.resetN then
    match s.happenings with
    | [] => .next s
    | h :: hs => happen ((h :: hs)[s.choice (h :: hs).length]?.getD h) (s.chose (h :: hs).length)
  else .next s

/-- One transaction, from the bits sampled on SDI while CS_N was low: begun with READY high it carries the command that the
bits spell, and begun with READY low it is discarded unchecked (R167 to R169). -/
def transaction (s : State) (sdi : List Bool) : Result :=
  if s.ready then exec (decodeTransaction sdi) { s with clocks := sdi.length }
  else .next (s.carryNotReady sdi.length)

end State

end Sys2Proof.Machine
end

