-- ==== Sys2Proof/Machine/Step.lean ====
section
/-! DEFINITION. step: the command at the front of the queue, or the part's own next event when none waits. -/

namespace Sys2Proof.Machine

open Sys2Proof

/-- One step. With a command waiting, the command at the front of the queue is taken and executed with the queue's rest;
with none, the part does what it does of its own accord (log entry 3). -/
def step (s : State) : Host.Outcome State Fault Refusal :=
  match s.pending with
  | c :: rest => exec c { s with pending := rest }
  | [] => s.autonomous

/-- The state with the command that a table word spells put at the front of its queue; no row of the table gives bits, so
no word spells one and the state is unchanged. -/
def State.withFetchWord (s : State) (nbits w : Nat) : State :=
  match decodeTableWord nbits w with
  | some c => { s with pending := c :: s.pending }
  | none => s

end Sys2Proof.Machine
end

