-- ==== Sys2Proof/Safety.lean ====
section
/-! DEFINITION. What is true of every state the part can be in: the ranges of the spec's tables and the properties its
rules state of all states, one predicate for each part of the state; and the state after some commands. -/

namespace Sys2Proof.Machine

open Sys2Proof

/-- The state after some commands, executed one after the other with nothing between. -/
def State.afterCommands (s : State) (cs : List Instr) : State :=
  cs.foldl
    (fun s c =>
      match exec c s with
      | .next t => t
      | .fault _ => s
      | .refused _ => s) s

/-- Every numeric parameter lies in its range, and the cross-conditions hold (R172, Table 10-4). -/
structure Params.Ok (p : Params) : Prop where
  inRange : ∀ n : Numeric, n.range.1 ≤ p.numeric n ∧ p.numeric n ≤ n.range.2
  cross : p.cross = true

/-- The ranges of Table 2-1 but for the anchor offset's, which log entry 19 gives up, with the bounds that R19, R22 and R23
keep, and the fields that are present in each cadence state (R13). R20 keeps the consistent-rise count below LOCK_COUNT,
which is at most 8. -/
structure Tracker.Ok (t : Tracker) : Prop where
  periodLow : 15000 ≤ t.period
  periodHigh : t.period ≤ 22000
  consistentLow : t.consistent ≤ 7
  candidate : ∀ c, t.candidate = some c → t.state = .acquiring ∧ 15000 ≤ c ∧ c ≤ 22000
  outliersLow : t.outliers ≤ 3
  outliersAcquiring : t.state = .acquiring → t.outliers ≤ 2
  missesLow : t.anchorMisses ≤ 7
  freeAnchor : t.anchor = none ↔ t.state = .free
  freeReference : t.reference = none ↔ t.state = .free
  holdoverRuns : t.holdover.isSome = t.predicting

/-- The ranges of Table 3-1; a CADENCED record is in band L (R32, R33). -/
structure Interferer.Ok (r : Interferer) : Prop where
  span : r.span.isInterfererSpan = true
  level : r.level ≤ 63
  confidence : r.confidence ≤ 15
  misses : r.misses ≤ 255
  duty : ∀ d, r.emission.duty = some d → d ≤ 64
  onDuration : ∀ o, r.emission.onDuration = some o → 500 ≤ o ∧ o ≤ 21500
  phase : ∀ φ, r.phase = some φ → φ ≤ 21999
  cadencedBand : r.isCadenced = true → r.span.band = .l

/-- Every record of the table is within Table 3-1. -/
def State.TableOk (s : State) : Prop := ∀ (k : Slot) (r : Interferer), s.table[k] = some r → r.Ok

/-- The tracker's anchor names a slot that holds a CADENCED record (R26, R31), and a record has a phase only while the
tracker is predicting (R27, R45). -/
structure State.CadenceOk (s : State) : Prop where
  anchor : ∀ k, s.tracker.anchor = some k → (s.table[k]).any (·.isCadenced) = true
  phase : s.tracker.predicting = false → ∀ (k : Slot) (r : Interferer), s.table[k] = some r → r.phase = none

/-- Every coverage age is at most 255 (R62). -/
def State.CoverageOk (s : State) : Prop := ∀ i : Fin 48, s.coverage[i] ≤ 255

/-- The ranges of Table 5-1, and advice only while STRAINED (R88, R91, R92). -/
structure Station.Ok (r : Station) : Prop where
  individual : r.primary.isGroup = false
  aliasIndividual : ∀ a, r.aliasAddr = some a → a.isGroup = false
  aliasDiffers : r.aliasAddr ≠ some r.primary
  floor : 50 ≤ r.floor ∧ r.floor ≤ 2000
  lossStreak : r.lossStreak ≤ 15
  okRun : r.okRun ≤ 15
  advice : r.advice.isSome = true → r.condition = .strained

/-- No two ADMITTED records carry the same address as primary or alias, and none carries a group address (R82). -/
structure State.StationsOk (s : State) : Prop where
  record : ∀ (k : StationSlot) (r : Station), s.stations[k] = some r → r.Ok
  apart : ∀ (j k : StationSlot) (q r : Station) (a : Address),
    s.stations[j] = some q → s.stations[k] = some r → q.uses a = true → r.uses a = true → j = k

/-- The target of a switch by its kind (Table 6-4), for a stack of the depth given. -/
def SwitchRecord.targets (w : SwitchRecord) (depth : Nat) : Prop :=
  match w.kind with
  | .fallback => 1 ≤ w.position ∧ w.position < depth
  | .push => 2 ≤ w.position ∧ w.position = depth
  | .pop => 1 ≤ w.position ∧ w.position + 1 = depth
  | .restore => 1 ≤ w.position ∧ w.position = depth

/-- One lane at the Plan Stacks: 0 to 6 plans, at least one unless DISABLED (R96), each valid, of the lane's band and
with a tolerance of at most 64; a switch record exactly while the lane is between plans, naming its target (R97, R106);
the settle timer runs only in SETTLED (R111) and the switch timeout only with an order in flight (R109). -/
structure PlanLane.Ok (p : PlanLane) : Prop where
  depth : p.stack.length ≤ 6
  enabled : p.state ≠ .disabled → p.stack ≠ []
  entries : ∀ e ∈ p.stack, e.plan.valid = true ∧ e.plan.band = p.band ∧ e.tolerance ≤ 64
  switching : p.switch.isSome = p.state.between
  target : ∀ w, p.switch = some w →
    w.targets p.stack.length ∧ (p.stack[w.position - 1]?).map (·.plan) = some w.target
  attempts : p.attempts ≤ 7
  settle : p.settle.isSome = true → p.state = .settled
  timeout : p.timeout.isSome = p.state.inFlight

def State.PlansOk (s : State) : Prop := ∀ l : Lane, (s.plans.get l).Ok

/-- One lane at the Grant Engine: at most two grants, with different ids and windows that do not overlap (R137, R138),
caps of at most 8,000 (R123), and an OK run of at most 254 (R142). -/
structure GrantLane.Ok (g : GrantLane) : Prop where
  atMostTwo : g.outstanding.length ≤ 2
  idsDiffer : g.outstanding.Pairwise fun x y => x.id ≠ y.id
  apart : g.outstanding.Pairwise fun x y => x.window.intersects y.window = false
  caps : ∀ x ∈ g.outstanding, x.cap ≤ 8000
  okRun : g.okRun ≤ 254

def State.GrantsOk (s : State) : Prop := ∀ l : Lane, (s.grants.get l).Ok

/-- Each lane's edge guard lies in GUARD_FLOOR to GUARD_CEILING (Table 8-1). -/
def State.GuardsOk (s : State) : Prop :=
  ∀ l : Lane, s.params.guardFloor ≤ (s.grants.get l).edgeGuard ∧ (s.grants.get l).edgeGuard ≤ s.params.guardCeiling

/-- One lane's link: at most 16 messages queued (R163), a count of at most 3, reached only with the latch set (R158). -/
structure LinkLane.Ok (k : LinkLane) : Prop where
  queue : k.outbound.length ≤ 16
  failures : k.failures ≤ 3
  latched : k.latch = false → k.failures ≤ 2

def State.LinksOk (s : State) : Prop := ∀ l : Lane, (s.links.get l).Ok

/-! ## What the statements about surveys speak of, as the rules say it -/

/-- Two hot readings, the second the next hot one of the survey, lie in one piece: their slices are adjacent, and neither
carries a burst, or both do with rise offsets that differ by at most MATCH_TOL (R63). -/
def Reading.continues (tol : Nat) (a b : Reading) : Prop :=
  b.slice = a.slice + 1 ∧
    ((a.burst = none ∧ b.burst = none) ∨
      ∃ x y, a.burst = some x ∧ b.burst = some y ∧ x.1 ≤ y.1 + tol ∧ y.1 ≤ x.1 + tol)

/-- The readings of a survey from which its observations are formed, one part for each: the hot readings in their order,
cut where one does not continue the one before and, in band H, after every 8 readings of a piece (R63, R64). -/
structure Survey.Parts (p : Params) (v : Survey) (parts : List (List Reading)) : Prop where
  hot : parts.flatten = v.readings.filter fun r => decide (p.detectLevel ≤ r.level)
  filled : ∀ part ∈ parts, part ≠ []
  whole : ∀ part ∈ parts, ∀ (pre post : List Reading) (a b : Reading), part = pre ++ a :: b :: post →
    a.continues p.matchTol b
  cut : ∀ (pre post : List (List Reading)) (c d : List Reading) (a b : Reading), parts = pre ++ c :: d :: post →
    c.getLast? = some a → d.head? = some b → a.continues p.matchTol b → v.band = .h ∧ c.length = 8
  small : v.band = .h → ∀ part ∈ parts, part.length ≤ 8

/-- What an observation holds of the readings of its part (R65), and the kind it guesses (R66). -/
structure Observation.Describes (p : Params) (v : Survey) (part : List Reading) (o : Observation) : Prop where
  span : ∀ x, part.head? = some x → o.span = ⟨x.slice, part.length⟩
  level : (∀ x ∈ part, x.level ≤ o.level) ∧ ∃ x ∈ part, x.level = o.level
  busy : (∀ x ∈ part, x.busy ≤ o.busy) ∧ ∃ x ∈ part, x.busy = o.busy
  quiet : (∀ x ∈ part, x.burst = none) → o.burst = none
  burst : ∀ rise fall : Nat, (∃ x ∈ part, ∃ f, x.burst = some (rise, f)) → (∃ x ∈ part, ∃ r, x.burst = some (r, fall)) →
    (∀ x ∈ part, ∀ r f, x.burst = some (r, f) → rise ≤ r ∧ f ≤ fall) →
    o.burst = some (v.start + BitVec.ofNat 32 rise, fall - rise)
  guess : o.guess = if o.burst.isSome = true ∧ v.band = .l ∧ 15000 ≤ v.length then .cadenced
    else if p.steadyFloor ≤ o.busy then .steady else .sporadic

/-- A slot's record is a candidate for an observation, with its overlap amount (R67): of its band, overlapping it by at
least half of the smaller count, of a compatible kind, not taken before in the survey, and, while the tracker is predicting,
with a phase within MATCH_TOL of the observed one if it has a phase (R68). -/
def Intake.IsCandidate (i : Intake) (p : Params) (t : Tracker) (o : Observation) (k : Slot) (amount : Nat) : Prop :=
  ∃ r, i.table[k] = some r ∧ r.span.band = o.span.band ∧ amount = r.span.overlap o.span ∧
    min r.span.count o.span.count ≤ 2 * amount ∧ (o.guess = .cadenced ↔ r.isCadenced = true) ∧
    (∀ x ∈ i.taken, x.1 ≠ k) ∧
    ∀ (φ length : Nat) (reference start : AirTime), (t.state = .locked ∨ t.state = .holdover) →
      t.reference = some reference → r.phase = some φ → o.burst = some (start, length) →
      let step := shortestStep t.period (φ % t.period : Nat) (onCircle t.period (signedDiff reference start))
      step ≤ p.matchTol ∧ -(p.matchTol : Int) ≤ step

/-- A record is covered by a survey (R72): a slice of it was read and, for a CADENCED record with a phase, while the tracker
is predicting, the predicted on-window of some period j meets the dwell window. -/
def Survey.Covers (v : Survey) (t : Tracker) (r : Interferer) : Prop :=
  (∃ x ∈ v.readings, r.span.first ≤ x.slice ∧ x.slice < r.span.first + r.span.count) ∧
    ∀ (reference : AirTime) (o φ : Nat), (t.state = .locked ∨ t.state = .holdover) → t.reference = some reference →
      r.emission = .cadenced o (some φ) →
      0 < o ∧ 0 < v.length ∧ ∃ j : Int,
        (let dwell : Int := signedDiff reference v.start
         let burst : Int := j * t.period + φ
         burst < dwell + v.length ∧ dwell < burst + o)

/-- The advised-station set never holds slot 0 (R92, R179). -/
def State.AdvisedOk (s : State) : Prop := s.advised.getLsbD 0 = false

end Sys2Proof.Machine
end

