-- ==== Sys2Proof/WellFormed.lean ====
section
/-! DEFINITION. What a term of Instr must satisfy to name one event of the part. exec is total on every term; these
are the terms that the spec's own words describe. -/

namespace Sys2Proof

/-- The bytes of one inbound message, whole or ended short: at least one byte, and no more than the body length byte
plus three (R154). -/
def oneMessage (bytes : List Byte) : Bool :=
  match bytes with
  | [] => false
  | [_] => true
  | _ :: len :: rest => decide (rest.length ≤ len.toNat + 1)

/-- The terms that name one event: the bytes of an arrival are those of one message (R154); a HELLO that arrives whole
is one arrival; the bits of CHECK_FAILED spell no good frame, and the code and body of UNKNOWN_COMMAND no command
(R169, R182). Every other operand is well formed by its type, or is a byte that the command itself checks. -/
def Instr.wellFormed (i : Instr) : Bool :=
  match i with
  | .laneMessageArrival _ .firstByte => true
  | .laneMessageArrival _ (.ends bytes) => oneMessage bytes
  | .checkFailed sdi => decodeTransaction sdi == .checkFailed sdi
  | .unknownCommand code body => decide (body.length ≤ 255) && (decodeCommand code body).isNone
  | .powerOnReset => true
  | .resetRelease => true
  | .tick => true
  | .softReset => true
  | .softResetBlock _ => true
  | .helloArrival _ => true
  | .hello _ => true
  | .outboundSend _ => true
  | .query => true
  | .outcome _ => true
  | .grantExpiry _ _ => true
  | .counterClaim _ _ => true
  | .survey => true
  | .riseReport _ _ => true
  | .anchorMissReport _ => true
  | .holdoverExpiry => true
  | .cadenceStateNotice => true
  | .changeNotice _ => true
  | .guardChangeNotice _ => true
  | .modeNotice => true
  | .drainNotice _ => true
  | .switchDone _ => true
  | .switchFailed _ => true
  | .switchTimeout _ => true
  | .settleTimerExpiry _ => true
  | .steeringRequest _ => true
  | .steeringResult _ => true
  | .attentionSetRequest _ => true
  | .notReady => true
  | .nop => true
  | .place _ => true
  | .interfererAmend _ => true
  | .pin _ => true
  | .unpin _ => true
  | .retire _ => true
  | .interfererRead _ => true
  | .scan => true
  | .admitStation _ => true
  | .stationAmend _ => true
  | .release _ => true
  | .stationRead _ => true
  | .find _ => true
  | .push _ _ _ => true
  | .pop _ => true
  | .continueLane _ => true
  | .readPlans _ => true
  | .eval _ _ => true
  | .enable _ => true
  | .disable _ => true
  | .laneReset _ => true
  | .readLane _ => true
  | .setParameter _ _ _ => true
  | .getParameter _ _ => true
  | .setMode _ => true
  | .status => true
  | .readAttention => true
  | .clearAttention _ => true
  | .takeChanges => true
  | .receptionRestartAfterIdleGap _ => true

end Sys2Proof
end

