-- ==== Sys2Proof/Certificates/Slice0/Obligations.lean ====
section
/-! DEFINITION. The statements for the provers. In every statement about a command or an event, every field of the
state that the next state does not name is unchanged. Where one event hands several pieces of work and the spec gives no
order, their order in State.handed is the model's choice (log entry 5); an answer that lists no items has an empty body
(log entry 8). -/

open Sys2Proof Sys2Proof.Machine

/-! ## The machine as a whole -/

/-- A step takes the command at the front of the queue and executes it with the queue's rest. -/
def Obligations.StepTakesFrontCommand : Prop :=
  ∀ (c : Instr) (rest : List Instr) (s : State), step { s with pending := c :: rest } = exec c { s with pending := rest }

/-- Every command and every step answers with a next state, and a command leaves the queue of commands as it is. -/
def Obligations.EveryCommandAnswers : Prop :=
  (∀ (c : Instr) (s : State), ∃ t, exec c s = .next t ∧ t.pending = s.pending) ∧ ∀ s : State, ∃ t, step s = .next t

/-- The bits of a transaction spell the command they were written from, with every operand, and clocks after the frame
change nothing (R167, R169, R182). The presence bytes of PLACE's optional arguments and the place of EVAL's selector byte,
after the lane, are the model's readings (log entry 8, DEDUCED). -/
def Obligations.TransactionSpellsItsCommand : Prop :=
  ∀ (i : Instr) (sdi : List Bool), i.wellFormed = true → encodeTransaction i = some sdi →
    decodeTransaction sdi = i ∧
      ((∀ bits, i ≠ .checkFailed bits) → ∀ more : List Bool, decodeTransaction (sdi ++ more) = i)

/-- The state right after reset has every property that the invariants below keep, and no soft reset is in progress in it. -/
def Obligations.ResetStateIsSound : Prop :=
  State.reset.params.Ok ∧ State.reset.tracker.Ok ∧ State.reset.TableOk ∧ State.reset.CadenceOk ∧
    State.reset.CoverageOk ∧ State.reset.StationsOk ∧ State.reset.PlansOk ∧ State.reset.GrantsOk ∧
    State.reset.GuardsOk ∧ State.reset.LinksOk ∧ State.reset.AdvisedOk ∧ State.reset.resets = [] ∧
    ∀ l : Lane, (State.reset.plans.get l).state = .disabled → (State.reset.grants.get l).outstanding = []

/-! ## What every step keeps -/

/-- Parameters stay in range with their cross-conditions, and edge guards between GUARD_FLOOR and GUARD_CEILING. -/
def Obligations.StepKeepsParametersAndGuards : Prop :=
  ∀ s t : State, s.params.Ok → s.GuardsOk → step s = .next t → t.params.Ok ∧ t.GuardsOk

/-- No two ADMITTED station records ever share an address, and none carries a group address. -/
def Obligations.StepKeepsStationAddressesApart : Prop :=
  ∀ s t : State, s.StationsOk → step s = .next t → t.StationsOk

/-- A lane's stack holds 0 to 6 plans, at least one unless DISABLED, and its switch record agrees with its plan state. -/
def Obligations.StepKeepsPlanStacks : Prop :=
  ∀ s t : State, s.params.Ok → s.PlansOk → step s = .next t → t.PlansOk

/-- At most two grants are outstanding on a lane, with different ids and windows that do not overlap. -/
def Obligations.StepKeepsGrantsApart : Prop :=
  ∀ s t : State, s.params.Ok → s.tracker.Ok → s.GrantsOk → step s = .next t → t.GrantsOk

/-- The anchor names a CADENCED record, and records carry phases only while the tracker is predicting, in a soft reset as at
any other time; that both hold between the resets of the two blocks is the model's reading (log entry 20). With no soft reset
in progress, a DISABLED lane holds no outstanding grant; what the order of the blocks' resets can leave of that when other
events fall between them is the model's choice (log entry 18). -/
def Obligations.StepKeepsAnchorPhasesAndDisabledLanes : Prop :=
  ∀ s t : State, step s = .next t →
    (s.tracker.Ok → s.CadenceOk → t.CadenceOk) ∧
    (s.resets = [] → (∀ l : Lane, (s.plans.get l).state = .disabled → (s.grants.get l).outstanding = []) →
      ∀ l : Lane, (t.plans.get l).state = .disabled → (t.grants.get l).outstanding = [])

/-- The tracker's fields but the anchor offset, records and coverage ages stay within the ranges of their tables, in a soft
reset as at any other time: the candidate is present only in ACQUIRING, and a consistent-rise count that moves stays below
LOCK_COUNT. The anchor offset's range is given up (log entry 19). Outbound queues hold at most 16 messages, a count of three
failures comes with the latch, and slot 0 is never in the advised-station set. -/
def Obligations.StepKeepsTableRanges : Prop :=
  ∀ s t : State, step s = .next t →
    (s.params.Ok → s.tracker.Ok →
      t.tracker.Ok ∧ (t.tracker.consistent = s.tracker.consistent ∨ t.tracker.consistent < t.params.lockCount)) ∧
    (s.tracker.Ok → s.TableOk → s.CoverageOk → t.TableOk ∧ t.CoverageOk) ∧
    (s.LinksOk → s.AdvisedOk → t.LinksOk ∧ t.AdvisedOk)

/-! ## Reset and time -/

/-- POWER_ON_RESET sets every value of the power-on columns and keeps READY low; RESET_RELEASE raises READY and changes
nothing else. That no handed work, no soft reset, no answer and no bits on SDO or LnTXD are left are the model's values (log
entry 13); the queue of commands, the count of free choices and the clocks the host processor gives are not the part's and
are kept (log entries 2 and 12). -/
def Obligations.PowerOnAndRelease : Prop :=
  ∀ s : State,
    (∃ t, exec .powerOnReset s = .next t ∧
      t.resetN = false ∧ t.ready = false ∧ t.airTime = 0 ∧ t.tick = false ∧ t.response = ⟨.done, []⟩ ∧
      t.params = Params.default ∧ t.mode = .run ∧ t.startCause = .power ∧ t.flags = Flags.clear ∧ t.changed = 0 ∧
      t.advised = 0 ∧ t.tracker = Tracker.reset ∧ (∀ k : Slot, t.table[k] = none) ∧
      (∀ i : Fin 48, t.coverage[i] = 255) ∧ (∀ k : StationSlot, t.stations[k] = none) ∧
      t.plans = ⟨.reset .l, .reset .l, .reset .h⟩ ∧ t.arbiter = .l2 ∧
      (∀ l, t.grants.get l = GrantLane.reset 300) ∧ (∀ l, t.links.get l = LinkLane.reset) ∧ t.handed = [] ∧
      t.resets = [] ∧ t.answer = none ∧ t.sdo = [] ∧ t.pending = s.pending ∧ t.choices = s.choices ∧
      t.clocks = s.clocks) ∧
    (s.resetN = false → exec .resetRelease s = .next { s with resetN := true, ready := true })

/-- With no command waiting and nothing ready one microsecond passes; while RESET_N is low nothing happens; and while a
timer is due or an OUTCOME is held, time does not pass. TICK brings the air time to the next multiple of 1,024 and drives
TICK high; from there TICK stays high for three more microseconds and falls at the fourth. A timer whose deadline comes
first expires on the way: here the only running timer, that of one grant. That time passes on an empty queue, that it waits
for a due timer and a held OUTCOME, and that the command TICK carries it forward, are the model's choices (log entries 3
and 4). -/
def Obligations.TimePassesAndTicks : Prop :=
  (∀ s : State, s.pending = [] →
    (s.resetN = false → step s = .next s) ∧
    (s.resetN = true → s.readyEvents = [] → s.answer = none →
      step s = .next { s with airTime := s.airTime + 1, tick := State.tickAt (s.airTime + 1) s.tick }) ∧
    (s.resetN = true →
      ((∃ d, (s.tracker.state = .locked ∨ s.tracker.state = .holdover) ∧ s.tracker.holdover = some d ∧
          atOrAfter s.airTime d = true) ∨
        ∃ l : Lane, (∃ x ∈ (s.grants.get l).outstanding, atOrAfter s.airTime x.expiry = true) ∨
          (∃ d, ((s.plans.get l).state = .switching ∨ (s.plans.get l).state = .unsynced) ∧
            (s.plans.get l).timeout = some d ∧ atOrAfter s.airTime d = true) ∨
          (∃ d, (s.plans.get l).settle = some d ∧ atOrAfter s.airTime d = true) ∨
          ∃ m, (s.links.get l).holder = some m ∧ m.kind = .outcome) →
      ∀ t, step s = .next t → t.airTime = s.airTime)) ∧
  (∀ s : State, s.resetN = true →
    ∃ t, exec .tick s = .next t ∧ t.tick = true ∧ t.airTime.toNat % 1024 = 0 ∧
      0 < (t.airTime - s.airTime).toNat ∧ (t.airTime - s.airTime).toNat ≤ 1024 ∧
      t.passMicrosecond.tick = true ∧ t.passMicrosecond.passMicrosecond.tick = true ∧
      t.passMicrosecond.passMicrosecond.passMicrosecond.tick = true ∧
      t.passMicrosecond.passMicrosecond.passMicrosecond.passMicrosecond.tick = false ∧
      (s.prompts = [] → (∀ d ∈ s.deadlines, (t.airTime - s.airTime).toNat ≤ (d - s.airTime).toNat) →
        t = { s with airTime := t.airTime, tick := true })) ∧
  ∀ (s : State) (l : Lane) (x : Grant), s.resetN = true → s.resets = [] → s.prompts = [] → s.deadlines = [x.expiry] →
    (s.grants.get l).outstanding = [x] → (x.expiry - s.airTime).toNat < State.tickDistance s.airTime →
    ∃ t, exec .tick s = .next t ∧
      t = { s with
        airTime := t.airTime, tick := true, handed := s.handed ++ [.drainNotice l]
        grants := s.grants.set l { s.grants.get l with
          outstanding := [], lastClosure := some ⟨x.id, .expired, none⟩ } }

/-- SOFT_RESET: the transaction carries the pending response, READY falls, the CPA sets mode RUN, start cause SOFT,
every flag clear and both sets empty, and every block is handed a reset. Requests the CPA had been handed are
discarded, and parameters are kept. A block that has been handed a reset sets its own state to its reset values and
discards the work it had been handed; a link discards a message in reception and waits for the idle gap; READY rises with
the response DONE when the last block has taken its reset. The tracker's reset also takes the phases out of the table, and
the table's brings the tracker to FREE, neither with a notice (log entry 20). When nothing falls between the blocks' resets,
the finished soft reset leaves the whole part at its reset values, in whatever order the blocks took theirs. When handed work
is discarded, and what the order leaves when something does fall between, are the model's readings (log entries 9 and 18);
that SOFT_RESET_BLOCK changes nothing for a block that was handed no reset (log entry 10), and that SDO and LnTXD keep what
they last carried (log entry 13), are its choices. -/
def Obligations.SoftResetIsTakenByEveryBlock : Prop :=
  (∀ s : State, s.ready = true →
      exec .softReset s = .next { s with
        sdo := s.response.shiftOut (s.clocksOf .softReset), ready := false, answer := none, mode := .run
        startCause := .soft, flags := .clear, changed := 0, advised := 0
        resets := [.ctk, .ift, .svi, .stb, .pls, .gre, .lli]
        handed := s.handed.filter fun h => h.receiver != .cpa }) ∧
  (∀ (s : State) (b : Block), s.resetN = true → b ∉ s.resets → exec (.softResetBlock b) s = .next s) ∧
  (∀ (s : State) (b : Block), s.resetN = true → b ∈ s.resets →
    ∃ t, exec (.softResetBlock b) s = .next t ∧ t.resets = s.resets.erase b ∧
      t.handed = s.handed.filter (fun h => h.receiver != b) ∧
      (t.resets = [] → t.ready = true ∧ t.response = ⟨.done, []⟩) ∧
      (t.resets ≠ [] → t.ready = s.ready ∧ t.response = s.response) ∧
      t.tracker = (if b = .ctk then Tracker.reset
        else if b = .ift then { Tracker.reset with period := s.tracker.period } else s.tracker) ∧
      (∀ k : Slot, t.table[k] = if b = .ift then none
        else if b = .ctk then (s.table[k]).map fun r => { r with emission := r.emission.withoutPhase }
        else s.table[k]) ∧
      t.coverage = (if b = .svi then Vector.replicate 48 255 else s.coverage) ∧
      t.stations = (if b = .stb then Vector.replicate 63 none else s.stations) ∧
      t.plans = (if b = .pls then ⟨.reset .l, .reset .l, .reset .h⟩ else s.plans) ∧
      t.arbiter = (if b = .gre then .l2 else s.arbiter) ∧
      (∀ l, t.grants.get l = if b = .gre then GrantLane.reset s.params.guardInitial else s.grants.get l) ∧
      (∀ l, t.links.get l =
        if b = .lli then { s.links.get l with
          holder := none, outbound := [], failures := 0, latch := false
          reception := if (s.links.get l).reception = .idle then .idle else .awaitingGap }
        else s.links.get l) ∧
      t.airTime = s.airTime ∧ t.tick = s.tick ∧ t.params = s.params ∧ t.mode = s.mode ∧ t.startCause = s.startCause ∧
      t.flags = s.flags ∧ t.changed = s.changed ∧ t.advised = s.advised ∧ t.sdo = s.sdo ∧ t.answer = s.answer) ∧
  ∀ (s : State) (order : List Block), s.resetN = true → s.ready = true →
    order.Perm [.ctk, .ift, .svi, .stb, .pls, .gre, .lli] →
    let t := s.afterCommands (.softReset :: order.map .softResetBlock)
    t.resets = [] ∧ t.ready = true ∧ t.response = ⟨.done, []⟩ ∧ t.answer = none ∧ t.mode = .run ∧
      t.startCause = .soft ∧ t.flags = Flags.clear ∧ t.changed = 0 ∧ t.advised = 0 ∧ t.handed = [] ∧
      t.tracker = Tracker.reset ∧ t.table = Vector.replicate 32 none ∧ t.coverage = Vector.replicate 48 255 ∧
      t.stations = Vector.replicate 63 none ∧ t.plans = ⟨.reset .l, .reset .l, .reset .h⟩ ∧ t.arbiter = .l2 ∧
      (∀ l, t.grants.get l = GrantLane.reset s.params.guardInitial) ∧
      (∀ l, (t.links.get l).holder = none ∧ (t.links.get l).outbound = [] ∧ (t.links.get l).failures = 0 ∧
        (t.links.get l).latch = false) ∧
      t.params = s.params ∧ t.airTime = s.airTime ∧ t.CadenceOk ∧
      ∀ l : Lane, (t.plans.get l).state = .disabled → (t.grants.get l).outstanding = []

/-! ## Lane links -/

/-- An arrival that fails its check is answered NAK(CHECK) with no kind. With the latch clear the count rises, and the
third failure sets the latch with LINK_FAULT; with the latch set the count does not move. A NAK handed to a queue of 16
is discarded and sets the latch with LINK_FAULT as well, unless it is set already. That the count moves before the NAK is
handed to a full queue is the model's choice (log entry 22). -/
def Obligations.FailedCheckIsAnsweredAndCounted : Prop :=
  ∀ (s : State) (l : Lane) (bytes : List Byte), s.resetN = true → s.resets = [] →
    (s.links.get l).reception ≠ .awaitingGap → passesCheck bytes = false →
    let k := s.links.get l
    let latched : Bool := k.latch || decide (3 ≤ k.failures + 1) || decide (16 ≤ k.outbound.length)
    exec (.laneMessageArrival l (.ends bytes)) s = .next { s with
      links := s.links.set l { k with
        outbound := if k.outbound.length < 16 then k.outbound ++ [.nak .check 0] else k.outbound
        failures := if k.latch then k.failures else k.failures + 1, latch := latched, reception := .idle }
      handed := s.handed ++ if latched && !k.latch then [.attentionSetRequest (.lane .linkFault l)] else [] }

/-- A whole message of a known kind and an allowed length enters an empty holder, unless it began while HOLD was driven
with holdoff ON or is a SURVEY on a DISABLED lane; it clears the failure count. -/
def Obligations.GoodMessageEntersHolder : Prop :=
  ∀ (s : State) (l : Lane) (k : InKind) (body : List Byte), s.resetN = true →
    (s.links.get l).reception ≠ .awaitingGap → (s.links.get l).latch = false → (s.links.get l).holder = none →
    k ≠ .hello → k.allows body.length = true → ¬(k = .survey ∧ (s.plans.get l).state = .disabled) →
    (s.links.get l).reception ≠ .inProgress true true →
    exec (.laneMessageArrival l (.ends (withCheck (k.byte :: natByte body.length :: body)))) s = .next { s with
      links := s.links.set l { s.links.get l with
        holder := some ⟨k, body, s.airTime⟩, failures := 0, reception := .idle } }

/-- A whole message that the link cannot take is discarded with the NAK of the first test it fails, and leaves the holder
as it is: FAULTED, MALFORMED, DISABLED or OVERRUN. -/
def Obligations.MessageTurnedAwayIsAnswered : Prop :=
  ∀ (s : State) (l : Lane) (kind : Byte) (body : List Byte) (reason : NakReason), s.resetN = true → s.resets = [] →
    (s.links.get l).reception ≠ .awaitingGap → body.length ≤ 255 → (s.links.get l).outbound.length < 16 →
    ((((s.links.get l).latch = true ∧ kind ≠ InKind.hello.byte) ∧ reason = .faulted) ∨
      (((s.links.get l).latch = false ∨ kind = InKind.hello.byte) ∧
        (∀ k, InKind.ofByte? kind = some k → k.allows body.length = false) ∧ reason = .malformed) ∨
      ((s.links.get l).latch = false ∧ kind = InKind.survey.byte ∧ InKind.survey.allows body.length = true ∧
        (s.plans.get l).state = .disabled ∧ reason = .disabled) ∨
      ((s.links.get l).latch = false ∧
        (∃ k, InKind.ofByte? kind = some k ∧ k ≠ .hello ∧ k.allows body.length = true ∧
          ¬(k = .survey ∧ (s.plans.get l).state = .disabled)) ∧
        ((s.links.get l).holder.isSome = true ∨ (s.links.get l).reception = .inProgress true true) ∧
        reason = .overrun)) →
    exec (.laneMessageArrival l (.ends (withCheck (kind :: natByte body.length :: body)))) s = .next { s with
      links := s.links.set l { s.links.get l with
        outbound := (s.links.get l).outbound ++ [.nak reason kind]
        failures := if (s.links.get l).latch then (s.links.get l).failures else 0
        reception := .idle } }

/-- HOLD is driven exactly while holdoff is ON and the holder is occupied. The first byte of a message notes HOLD and the
holdoff setting. A HELLO, given as an event or by its bytes, empties the holder and the queue, clears the count and the
latch, and is placed in the holder. After a soft reset nothing is received until the idle gap that restarts reception. A
first byte as an event of its own is the model's reading (log entry 11). -/
def Obligations.ReceptionAndHelloAtTheLink : Prop :=
  (∀ (s : State) (l : Lane),
      s.hold l = true ↔ s.params.holdoff.get l = true ∧ ∃ m, (s.links.get l).holder = some m) ∧
  (∀ (s : State) (l : Lane), s.resetN = true → (s.links.get l).reception ≠ .awaitingGap →
      exec (.helloArrival l) s = .next { s with
        links := s.links.set l { s.links.get l with
          holder := some ⟨.hello, [], s.airTime⟩, failures := 0, latch := false, outbound := [], reception := .idle } } ∧
      exec (.laneMessageArrival l (.ends (withCheck [6, 0]))) s = exec (.helloArrival l) s) ∧
  ∀ (s : State) (l : Lane), s.resetN = true →
    ((s.links.get l).reception = .idle →
      exec (.laneMessageArrival l .firstByte) s = .next { s with
        links := s.links.set l { s.links.get l with
          reception := .inProgress (s.params.holdoff.get l && (s.links.get l).holder.isSome)
            (s.params.holdoff.get l) } }) ∧
    ((s.links.get l).reception = .awaitingGap →
      (∀ e, exec (.laneMessageArrival l e) s = .next s) ∧ exec (.helloArrival l) s = .next s ∧
      exec (.receptionRestartAfterIdleGap l) s = .next { s with
        links := s.links.set l { s.links.get l with reception := .idle } })

/-- The message at the head of a lane's queue leaves it as its first byte begins; what leaves passes its check, and a
WELCOME carries the air time of that moment. -/
def Obligations.HeadOfQueueIsSent : Prop :=
  ∀ (s : State) (l : Lane) (m : OutMsg) (rest : List OutMsg), s.resetN = true → (s.links.get l).outbound = m :: rest →
    exec (.outboundSend l) s = .next { s with
      links := s.links.set l { s.links.get l with outbound := rest, txd := m.bytes s.airTime } } ∧
    passesCheck (m.bytes s.airTime) = true ∧
    ∀ lane band, m = .welcome lane band →
      m.bytes s.airTime = withCheck ([0x84, 6] ++ wordBytes s.airTime ++ [lane.byte, band.byte])

/-! ## Plan Stacks -/

/-- HELLO, taken by the Plan Stacks: the lane's grants close with LANE_RESET, its edge guard and OK run are reset, and
a WELCOME is sent; an enabled lane is then sent a RESTORE order for its top and is SWITCHING. LANE RESET makes the link
steps of a HELLO without a message to hold and then the same restart. The order of the handed work is the model's choice
(log entry 5). -/
def Obligations.HelloAndLaneResetRestartTheLane : Prop :=
  ∀ (s : State) (l : Lane), s.resets = [] →
    let lane := s.plans.get l
    let outstanding := (s.grants.get l).outstanding
    let grants := s.grants.set l { s.grants.get l with
      outstanding := [], edgeGuard := s.params.guardInitial, okRun := 0
      lastClosure := match outstanding.getLast? with
        | some x => some ⟨x.id, .laneReset, none⟩
        | none => (s.grants.get l).lastClosure }
    let handed := s.handed ++ (if outstanding = [] then [] else [.drainNotice l]) ++
      (if s.params.guardInitial = (s.grants.get l).edgeGuard then [] else [.guardChangeNotice l])
    let restored := fun (top : PlanEntry) => s.plans.set l { lane with
      state := .switching, switch := some ⟨.restore, lane.stack.length, top.plan⟩, attempts := 0, settle := none
      timeout := some (after s.airTime (s.params.switchTimeout * 1000)) }
    let queued := fun (k : LinkLane) (more : List OutMsg) =>
      s.links.set l { k with holder := none, outbound := k.outbound ++ .welcome l lane.band :: more }
    let cleared : LinkLane := { s.links.get l with failures := 0, latch := false, outbound := [] }
    (∀ m, s.resetN = true → (s.links.get l).holder = some m → m.kind = .hello →
      (s.links.get l).outbound.length + 2 ≤ 16 →
      (lane.state = .disabled →
        exec (.hello l) s = .next { s with grants := grants, handed := handed, links := queued (s.links.get l) [] }) ∧
      ∀ top, lane.state ≠ .disabled → lane.stack.getLast? = some top →
        exec (.hello l) s = .next { s with
          grants := grants, handed := handed, plans := restored top
          links := queued (s.links.get l) [.switchOrder top.plan s.params.switchCountdown] }) ∧
    (s.ready = true →
      (lane.state = .disabled →
        exec (.laneReset l.byte) s = .next { s.answering (.laneReset l.byte) ⟨.done, []⟩ with
          grants := grants, handed := handed, links := queued cleared [] }) ∧
      ∀ top, lane.state ≠ .disabled → lane.stack.getLast? = some top →
        exec (.laneReset l.byte) s = .next { s.answering (.laneReset l.byte) ⟨.done, []⟩ with
          grants := grants, handed := handed, plans := restored top
          links := queued cleared [.switchOrder top.plan s.params.switchCountdown] })

/-- A notice judges only lanes that are SETTLED with the settle timer stopped. With no such lane, each of the four
notices is used up and nothing else changes. With one such lane, whose top has a clear fraction at or above its
tolerance, the top is tagged VALID; below it in BYPASS, the top is tagged STALE; UNKNOWN, nothing changes. However many
lanes are SETTLED with the timer stopped, each is judged, by its own top, stack and edge guard: in RUN an unacceptable
top is tagged STALE, and the nearest acceptable entry beneath it is taken by a FALLBACK switch, DRAINING while grants
are outstanding and with the order sent at once when there are none (a full queue discards it and sets the latch), the
entries passed tagged STALE unless UNKNOWN; with none acceptable the lane underflows, masked with NO_FALLBACK, unmasked
HALTED with LANE_HALTED. That the lanes hand what they hand in the order of their numbers is the model's choice (log
entry 5). -/
def Obligations.NoticeTagsTheTop : Prop :=
  ∀ (s : State) (n : Handed), s.resetN = true →
    (n = .cadenceStateNotice ∨ (∃ k, n = .changeNotice k) ∨ (∃ l, n = .guardChangeNotice l) ∨ n = .modeNotice) →
    ((∀ l, ¬((s.plans.get l).state = .settled ∧ (s.plans.get l).settle = none)) →
      exec n.toInstr s = .next { s with handed := s.handed.erase n }) ∧
    (∀ (l : Lane) (below : List PlanEntry) (top : PlanEntry),
      (∀ m, ((s.plans.get m).state = .settled ∧ (s.plans.get m).settle = none) ↔ m = l) →
      (s.plans.get l).stack = below ++ [top] →
      (s.clearFraction top.plan.span (s.grants.get l).edgeGuard = none →
        exec n.toInstr s = .next { s with handed := s.handed.erase n }) ∧
      ∀ q, s.clearFraction top.plan.span (s.grants.get l).edgeGuard = some q →
        (top.tolerance ≤ q →
          exec n.toInstr s = .next { s with
            handed := s.handed.erase n
            plans := s.plans.set l { s.plans.get l with stack := below ++ [{ top with tag := .valid }] } }) ∧
        (q < top.tolerance → s.mode = .bypass →
          exec n.toInstr s = .next { s with
            handed := s.handed.erase n
            plans := s.plans.set l { s.plans.get l with stack := below ++ [{ top with tag := .stale }] } })) ∧
    (s.resets = [] →
      ∃ (t : State) (asked : Lane → List Handed), exec n.toInstr s = .next t ∧
        t = { s with
          plans := t.plans, links := t.links
          handed := s.handed.erase n ++ asked .l0 ++ asked .l1 ++ asked .l2 } ∧
        ∀ l : Lane,
          let lane := s.plans.get l
          let link := s.links.get l
          let q := fun (e : PlanEntry) => s.clearFraction e.plan.span (s.grants.get l).edgeGuard
          let stale := fun (e : PlanEntry) => { e with tag := .stale }
          let passed := fun (e : PlanEntry) => if (q e).isSome then stale e else e
          let became := fun (p : PlanLane) (k : LinkLane) (work : List Handed) =>
            t.plans.get l = p ∧ t.links.get l = k ∧ asked l = work
          (¬(lane.state = .settled ∧ lane.settle = none) → became lane link []) ∧
          ∀ (below : List PlanEntry) (top : PlanEntry), lane.state = .settled → lane.settle = none →
            lane.stack = below ++ [top] →
            (q top = none → became lane link []) ∧
            ∀ x, q top = some x →
              (top.tolerance ≤ x → became { lane with stack := below ++ [{ top with tag := .valid }] } link []) ∧
              (x < top.tolerance → s.mode = .bypass → became { lane with stack := below ++ [stale top] } link []) ∧
              (x < top.tolerance → s.mode = .run → (∀ e ∈ below, ∀ y, q e = some y → y < e.tolerance) →
                (s.params.underflowMask = true →
                  became { lane with stack := below.map passed ++ [stale top] } link
                    [.attentionSetRequest (.lane .noFallback l)]) ∧
                (s.params.underflowMask = false →
                  became { lane with stack := below.map passed ++ [stale top], state := .halted } link
                    [.attentionSetRequest (.lane .laneHalted l)])) ∧
              ∀ (deep above : List PlanEntry) (c : PlanEntry) (y : Nat), x < top.tolerance → s.mode = .run →
                below = deep ++ c :: above → q c = some y → c.tolerance ≤ y →
                (∀ e ∈ above, ∀ z, q e = some z → z < e.tolerance) →
                let moving := { lane with
                  stack := deep ++ c :: above.map passed ++ [stale top], settle := none
                  switch := some ⟨.fallback, deep.length + 1, c.plan⟩ }
                ((s.grants.get l).outstanding ≠ [] → became { moving with state := .draining } link []) ∧
                ((s.grants.get l).outstanding = [] →
                  became { moving with
                    state := .switching, attempts := 0
                    timeout := some (after s.airTime (s.params.switchTimeout * 1000)) }
                    (if link.outbound.length < 16 then
                      { link with outbound := link.outbound ++ [.switchOrder c.plan s.params.switchCountdown] }
                    else { link with latch := true })
                    (if 16 ≤ link.outbound.length ∧ link.latch = false then
                      [.attentionSetRequest (.lane .linkFault l)] else [])))

/-- The fallback search takes the nearest entry beneath the top whose clear fraction is known and at or above its
tolerance: entries passed on the way are tagged STALE unless UNKNOWN, and entries beneath it are left as they are. In RUN,
a settle timer's expiry on a lane whose top is unacceptable starts a FALLBACK to the acceptable entry directly beneath it;
with grants outstanding the lane is DRAINING, and with none the order is sent at once. A stack of one entry underflows:
masked, it stays with NO_FALLBACK; unmasked, it is HALTED with LANE_HALTED. In either mode the expiry stops the timer, leaves
a top of UNKNOWN clear fraction as it is and tags an acceptable one VALID; in BYPASS it tags an unacceptable one STALE and
does no more. Before its deadline nothing happens (that an expiry acts only when due is a reading, log entry 10). -/
def Obligations.JudgementFallsBack : Prop :=
  (∀ (q : PlanSpan → Option Nat) (passed : List PlanEntry) (c : PlanEntry) (beneath : List PlanEntry),
      (∀ e ∈ passed, ∀ x, q e.plan = some x → x < e.tolerance) →
      searchDown q passed =
        (passed.map fun e => if (q e.plan).isSome then { e with tag := .stale } else e, none) ∧
      ∀ x, q c.plan = some x → c.tolerance ≤ x →
        searchDown q (passed ++ c :: beneath) =
          ((passed.map fun e => if (q e.plan).isSome then { e with tag := .stale } else e) ++ c :: beneath,
            some (beneath.length + 1))) ∧
  (∀ (s : State) (l : Lane) (d : AirTime) (below : List PlanEntry) (top : PlanEntry), s.resetN = true →
    (s.plans.get l).state = .settled → (s.plans.get l).settle = some d → (s.plans.get l).stack = below ++ [top] →
    let became := fun (top : PlanEntry) => exec (.settleTimerExpiry l) s = .next { s with
      plans := s.plans.set l { s.plans.get l with stack := below ++ [top], settle := none } }
    (atOrAfter s.airTime d = false → exec (.settleTimerExpiry l) s = .next s) ∧
    (atOrAfter s.airTime d = true →
      (s.clearFraction top.plan.span (s.grants.get l).edgeGuard = none → became top) ∧
      ∀ q, s.clearFraction top.plan.span (s.grants.get l).edgeGuard = some q →
        (top.tolerance ≤ q → became { top with tag := .valid }) ∧
        (q < top.tolerance → s.mode = .bypass → became { top with tag := .stale }))) ∧
  ∀ (s : State) (l : Lane) (d : AirTime) (below : List PlanEntry) (top : PlanEntry) (q : Nat), s.resetN = true →
    s.resets = [] → (s.plans.get l).state = .settled → (s.plans.get l).settle = some d → atOrAfter s.airTime d = true →
    (s.plans.get l).stack = below ++ [top] → s.mode = .run →
    s.clearFraction top.plan.span (s.grants.get l).edgeGuard = some q → q < top.tolerance →
    (∀ (deep : List PlanEntry) (c : PlanEntry) (x : Nat), below = deep ++ [c] →
      s.clearFraction c.plan.span (s.grants.get l).edgeGuard = some x → c.tolerance ≤ x →
      ((s.grants.get l).outstanding ≠ [] →
        exec (.settleTimerExpiry l) s = .next { s with
          plans := s.plans.set l { s.plans.get l with
            stack := below ++ [{ top with tag := .stale }], state := .draining, settle := none
            switch := some ⟨.fallback, below.length, c.plan⟩ } }) ∧
      ((s.grants.get l).outstanding = [] → (s.links.get l).outbound.length < 16 →
        exec (.settleTimerExpiry l) s = .next { s with
          plans := s.plans.set l { s.plans.get l with
            stack := below ++ [{ top with tag := .stale }], state := .switching, settle := none, attempts := 0
            switch := some ⟨.fallback, below.length, c.plan⟩
            timeout := some (after s.airTime (s.params.switchTimeout * 1000)) }
          links := s.links.set l { s.links.get l with
            outbound := (s.links.get l).outbound ++ [.switchOrder c.plan s.params.switchCountdown] } })) ∧
    (below = [] →
      (s.params.underflowMask = true →
        exec (.settleTimerExpiry l) s = .next { s with
          plans := s.plans.set l { s.plans.get l with stack := [{ top with tag := .stale }], settle := none }
          handed := s.handed ++ [.attentionSetRequest (.lane .noFallback l)] }) ∧
      (s.params.underflowMask = false →
        exec (.settleTimerExpiry l) s = .next { s with
          plans := s.plans.set l { s.plans.get l with
            stack := [{ top with tag := .stale }], settle := none, state := .halted }
          handed := s.handed ++ [.attentionSetRequest (.lane .laneHalted l)] }))

/-- A SWITCH_DONE that carries the target of the order in flight completes the switch: the entries above the target are
removed, the target is tagged VALID, the settle timer starts, and the lane is SETTLED, with FALLBACK_DONE for a FALLBACK. -/
def Obligations.SwitchDoneCompletesTheSwitch : Prop :=
  ∀ (s : State) (l : Lane) (m : Held) (w : SwitchRecord) (beneath above : List PlanEntry) (e : PlanEntry),
    s.resetN = true → s.resets = [] → (s.links.get l).holder = some m → m.kind = .switchDone →
    m.body = [natByte w.target.primary, w.target.width.byte] → w.target.valid = true →
    ((s.plans.get l).state = .switching ∨ (s.plans.get l).state = .unsynced) → (s.plans.get l).switch = some w →
    (s.plans.get l).stack = beneath ++ e :: above → w.position = beneath.length + 1 →
    exec (.switchDone l) s = .next { s with
      links := s.links.set l { s.links.get l with holder := none }
      plans := s.plans.set l { s.plans.get l with
        stack := beneath ++ [{ e with tag := .valid }], state := .settled, switch := none, attempts := 0
        timeout := none, settle := some (after s.airTime (s.params.settleTime * 1000000)) }
      handed := if w.kind = .fallback then s.handed ++ [.attentionSetRequest (.lane .fallbackDone l)] else s.handed }

/-- A SWITCH_FAILED that carries the target of the order in flight ends the switch with SWITCH_FAILED attention. A
RESTORE leaves the lane HALTED on its STALE top with LANE_HALTED. The others leave it SETTLED, a FALLBACK or PUSH
without its target and a POP with its target STALE, and the lane is judged. The order of the handed work is the model's
choice (log entry 5). -/
def Obligations.SwitchFailedActsByKind : Prop :=
  ∀ (s : State) (l : Lane) (m : Held) (w : SwitchRecord) (beneath above : List PlanEntry) (e : PlanEntry),
    s.resetN = true → s.resets = [] → (s.links.get l).holder = some m → m.kind = .switchFailed →
    m.body = [natByte w.target.primary, w.target.width.byte] → w.target.valid = true →
    ((s.plans.get l).state = .switching ∨ (s.plans.get l).state = .unsynced) → (s.plans.get l).switch = some w →
    (s.plans.get l).stack = beneath ++ e :: above → w.position = beneath.length + 1 →
    (w.kind = .restore →
      exec (.switchFailed l) s = .next { s with
        links := s.links.set l { s.links.get l with holder := none }
        plans := s.plans.set l { s.plans.get l with
          stack := beneath ++ { e with tag := .stale } :: above, state := .halted, switch := none, attempts := 0
          timeout := none }
        handed := s.handed ++
          [.attentionSetRequest (.lane .switchFailed l), .attentionSetRequest (.lane .laneHalted l)] }) ∧
    (w.kind ≠ .restore →
      exec (.switchFailed l) s = .next (State.judgeEligible { s with
        links := s.links.set l { s.links.get l with holder := none }
        plans := s.plans.set l { s.plans.get l with
          stack := if w.kind = .pop then beneath ++ { e with tag := .stale } :: above else beneath ++ above
          state := .settled, switch := none, attempts := 0, timeout := none }
        handed := s.handed ++ [.attentionSetRequest (.lane .switchFailed l)] } l))

/-- A switch answer with no order in flight, or with another target, draws NAK(UNEXPECTED); one that carries no valid plan
span draws NAK(MALFORMED). Nothing else changes but the holder. -/
def Obligations.UnmatchedSwitchAnswerIsNaked : Prop :=
  ∀ (s : State) (l : Lane) (m : Held) (c : Instr), s.resetN = true → s.resets = [] →
    (s.links.get l).holder = some m → (s.links.get l).outbound.length < 16 →
    ((m.kind = .switchDone ∧ c = .switchDone l) ∨ (m.kind = .switchFailed ∧ c = .switchFailed l)) →
    (∀ p : PlanSpan, p.valid = true → m.body = [natByte p.primary, p.width.byte] →
      (∀ w, (s.plans.get l).switch = some w →
        ¬(((s.plans.get l).state = .switching ∨ (s.plans.get l).state = .unsynced) ∧ w.target = p)) →
      exec c s = .next { s with
        links := s.links.set l { s.links.get l with
          holder := none, outbound := (s.links.get l).outbound ++ [.nak .unexpected m.kind.byte] } }) ∧
    ((∀ p : PlanSpan, p.valid = true → m.body ≠ [natByte p.primary, p.width.byte]) →
      exec c s = .next { s with
        links := s.links.set l { s.links.get l with
          holder := none, outbound := (s.links.get l).outbound ++ [.nak .malformed m.kind.byte] } })

/-- A drain notice makes a DRAINING lane send its order and enter SWITCHING with the timeout started and the attempt
count 0; any other lane discards it. The switch timeout resends the order and leaves the lane UNSYNCED while the
attempt count is below SWITCH_RETRIES, and otherwise halts the lane with LANE_HALTED and LINK_FAULT, the link-fault
latch not set. That a drain notice sends the order whatever grants the lane has outstanding, as R105 says, though
Table 7-8 has a drain wait for a grant given after the notice was handed (log entry 23), and the order of the handed
work (log entry 5), are the model's choices. -/
def Obligations.DrainAndTimeoutSendTheOrder : Prop :=
  (∀ (s : State) (l : Lane), s.resetN = true → s.resets = [] →
      ((s.plans.get l).state ≠ .draining →
        exec (.drainNotice l) s = .next { s with handed := s.handed.erase (.drainNotice l) }) ∧
      ∀ w, (s.plans.get l).state = .draining → (s.plans.get l).switch = some w → (s.links.get l).outbound.length < 16 →
        exec (.drainNotice l) s = .next { s with
          handed := s.handed.erase (.drainNotice l)
          links := s.links.set l { s.links.get l with
            outbound := (s.links.get l).outbound ++ [.switchOrder w.target s.params.switchCountdown] }
          plans := s.plans.set l { s.plans.get l with
            state := .switching, attempts := 0
            timeout := some (after s.airTime (s.params.switchTimeout * 1000)) } }) ∧
  ∀ (s : State) (l : Lane) (d : AirTime) (w : SwitchRecord), s.resetN = true → s.resets = [] →
    ((s.plans.get l).state = .switching ∨ (s.plans.get l).state = .unsynced) → (s.plans.get l).timeout = some d →
    atOrAfter s.airTime d = true → (s.plans.get l).switch = some w →
    ((s.plans.get l).attempts < s.params.switchRetries → (s.links.get l).outbound.length < 16 →
      exec (.switchTimeout l) s = .next { s with
        links := s.links.set l { s.links.get l with
          outbound := (s.links.get l).outbound ++ [.switchOrder w.target s.params.switchCountdown] }
        plans := s.plans.set l { s.plans.get l with
          state := .unsynced, attempts := (s.plans.get l).attempts + 1
          timeout := some (after s.airTime (s.params.switchTimeout * 1000)) } }) ∧
    (s.params.switchRetries ≤ (s.plans.get l).attempts →
      exec (.switchTimeout l) s = .next { s with
        plans := s.plans.set l { s.plans.get l with state := .halted, switch := none, timeout := none }
        handed := s.handed ++
          [.attentionSetRequest (.lane .laneHalted l), .attentionSetRequest (.lane .linkFault l)] })

/-- A lane number outside 0 to 2 is refused with BAD_ARGUMENT by PUSH, POP, CONTINUE, ENABLE, DISABLE and LANE RESET,
before any other check. PUSH: the checks of its rule in their order, the first of them a valid plan span and a tolerance
of at most 64; on a DISABLED lane the entry goes on top, VALID, and an empty stack takes its band; on a SETTLED or
HALTED lane a PUSH switch begins, and the lane is DRAINING while grants are outstanding and is sent its order at once
when there are none. A full stack sheds its bottom entry with STACK_SHED while OVERFLOW_MASK is masked. The order of the
handed work is the model's choice (log entry 5). -/
def Obligations.PushPlacesAnEntry : Prop :=
  (∀ (s : State) (n tol : Byte) (plan : RawPlan) (c : Instr), s.ready = true → 3 ≤ n.toNat →
      (c = .push n plan tol ∨ c = .pop n ∨ c = .continueLane n ∨ c = .enable n ∨ c = .disable n ∨ c = .laneReset n) →
      exec c s = .next (s.answering c ⟨.badArgument, []⟩)) ∧
  (∀ (s : State) (l : Lane) (plan : RawPlan) (tol : Byte), s.ready = true →
      (∀ p : PlanSpan, p.valid = true → plan ≠ ⟨natByte p.primary, p.width.byte⟩) →
      exec (.push l.byte plan tol) s = .next (s.answering (.push l.byte plan tol) ⟨.badArgument, []⟩)) ∧
  ∀ (s : State) (l : Lane) (p : PlanSpan) (tol : Byte), s.ready = true → s.resets = [] → p.valid = true →
    let lane := s.plans.get l
    let c : Instr := .push l.byte ⟨natByte p.primary, p.width.byte⟩ tol
    let refusedWith := fun (x : Status) => exec c s = .next (s.answering c ⟨x, []⟩)
    let free := lane.state = .disabled ∧ lane.stack = []
    let between := lane.state = .draining ∨ lane.state = .switching ∨ lane.state = .unsynced
    let stack := (if lane.stack.length < 6 then lane.stack else lane.stack.drop 1) ++ [⟨p, tol.toNat, .valid⟩]
    let shed : List Handed := if lane.stack.length < 6 then [] else [.attentionSetRequest (.lane .stackShed l)]
    (64 < tol.toNat → refusedWith .badArgument) ∧
    (tol.toNat ≤ 64 →
      (between → refusedWith .busy) ∧
      (¬between → p.band ≠ lane.band → ¬free → refusedWith .badArgument) ∧
      (¬between → (p.band = lane.band ∨ free) →
        (6 ≤ lane.stack.length → s.params.overflowMask = false → refusedWith .stackFull) ∧
        ((lane.stack.length < 6 ∨ s.params.overflowMask = true) →
          (lane.state = .disabled →
            exec c s = .next { s.answering c ⟨.done, [natByte stack.length, mark (decide (6 ≤ lane.stack.length))]⟩ with
              handed := s.handed ++ shed
              plans := s.plans.set l { lane with band := p.band, stack := stack } }) ∧
          (lane.state ≠ .disabled → (s.grants.get l).outstanding ≠ [] →
            exec c s = .next { s.answering c ⟨.done, [natByte stack.length, mark (decide (6 ≤ lane.stack.length))]⟩ with
              handed := s.handed ++ shed
              plans := s.plans.set l { lane with
                stack := stack, state := .draining, settle := none
                switch := some ⟨.push, stack.length, p⟩ } }) ∧
          (lane.state ≠ .disabled → (s.grants.get l).outstanding = [] → (s.links.get l).outbound.length < 16 →
            exec c s = .next { s.answering c ⟨.done, [natByte stack.length, mark (decide (6 ≤ lane.stack.length))]⟩ with
              handed := s.handed ++ shed
              links := s.links.set l { s.links.get l with
                outbound := (s.links.get l).outbound ++ [.switchOrder p s.params.switchCountdown] }
              plans := s.plans.set l { lane with
                stack := stack, state := .switching, settle := none, attempts := 0
                switch := some ⟨.push, stack.length, p⟩
                timeout := some (after s.airTime (s.params.switchTimeout * 1000)) } }))))

/-- POP: BUSY between plans; on a DISABLED lane the top is removed at once, or EMPTY_STACK; on a SETTLED or HALTED lane
a stack of one entry is LAST_PLAN, and otherwise a POP switch begins, DRAINING while grants are outstanding and with
the order sent at once when there are none. That an answer without items has an empty body is the model's reading (log
entry 8). -/
def Obligations.PopRemovesOrSwitches : Prop :=
  ∀ (s : State) (l : Lane), s.ready = true →
    let lane := s.plans.get l
    let refusedWith := fun (x : Status) =>
      exec (.pop l.byte) s = .next (s.answering (.pop l.byte) ⟨x, []⟩)
    ((lane.state = .draining ∨ lane.state = .switching ∨ lane.state = .unsynced) → refusedWith .busy) ∧
    (lane.state = .disabled → lane.stack = [] → refusedWith .emptyStack) ∧
    (∀ below top, lane.state = .disabled → lane.stack = below ++ [top] →
      exec (.pop l.byte) s = .next { s.answering (.pop l.byte) ⟨.done, [natByte below.length]⟩ with
        plans := s.plans.set l { lane with stack := below } }) ∧
    ((lane.state = .settled ∨ lane.state = .halted) →
      (lane.stack.length = 1 → refusedWith .lastPlan) ∧
      ∀ deep next top, lane.stack = deep ++ [next, top] →
        ((s.grants.get l).outstanding ≠ [] →
          exec (.pop l.byte) s = .next { s.answering (.pop l.byte) ⟨.done, []⟩ with
            plans := s.plans.set l { lane with
              state := .draining, settle := none, switch := some ⟨.pop, deep.length + 1, next.plan⟩ } }) ∧
        ((s.grants.get l).outstanding = [] → s.resets = [] → (s.links.get l).outbound.length < 16 →
          exec (.pop l.byte) s = .next { s.answering (.pop l.byte) ⟨.done, []⟩ with
            links := s.links.set l { s.links.get l with
              outbound := (s.links.get l).outbound ++ [.switchOrder next.plan s.params.switchCountdown] }
            plans := s.plans.set l { lane with
              state := .switching, settle := none, attempts := 0
              switch := some ⟨.pop, deep.length + 1, next.plan⟩
              timeout := some (after s.airTime (s.params.switchTimeout * 1000)) } }))

/-- CONTINUE returns a HALTED lane to SETTLED with the attempt count 0, and changes neither the stack and its tags nor
the settle timer nor any attention condition; no judgement is started. In any other plan state it is refused with
REFUSED. That an answer without items has an empty body is the model's reading (log entry 8). -/
def Obligations.ContinueResumesAHaltedLane : Prop :=
  ∀ (s : State) (l : Lane), s.ready = true →
    ((s.plans.get l).state = .halted →
      exec (.continueLane l.byte) s = .next { s.answering (.continueLane l.byte) ⟨.done, []⟩ with
        plans := s.plans.set l { s.plans.get l with state := .settled, attempts := 0 } }) ∧
    ((s.plans.get l).state ≠ .halted →
      exec (.continueLane l.byte) s = .next (s.answering (.continueLane l.byte) ⟨.refused, []⟩))

/-- ENABLE sends a WELCOME and a RESTORE order for the top, and the lane is SWITCHING; it is refused on an enabled lane
and on an empty stack. DISABLE closes the lane's grants with LANE_RESET, ends its switch and its timers, sends nothing,
and keeps the stack, the band, the edge guard and the OK run; on a DISABLED lane it changes nothing. -/
def Obligations.EnableAndDisable : Prop :=
  ∀ (s : State) (l : Lane), s.ready = true → s.resets = [] →
    let lane := s.plans.get l
    let refusedWith := fun (x : Status) =>
      exec (.enable l.byte) s = .next (s.answering (.enable l.byte) ⟨x, []⟩)
    (lane.state ≠ .disabled → refusedWith .refused) ∧
    (lane.state = .disabled → lane.stack = [] → refusedWith .emptyStack) ∧
    (∀ top, lane.state = .disabled → lane.stack.getLast? = some top → (s.links.get l).outbound.length + 2 ≤ 16 →
      exec (.enable l.byte) s = .next { s.answering (.enable l.byte) ⟨.done, []⟩ with
        links := s.links.set l { s.links.get l with
          outbound := (s.links.get l).outbound ++
            [.welcome l lane.band, .switchOrder top.plan s.params.switchCountdown] }
        plans := s.plans.set l { lane with
          state := .switching, switch := some ⟨.restore, lane.stack.length, top.plan⟩, attempts := 0, settle := none
          timeout := some (after s.airTime (s.params.switchTimeout * 1000)) } }) ∧
    (lane.state = .disabled →
      exec (.disable l.byte) s = .next (s.answering (.disable l.byte) ⟨.done, []⟩)) ∧
    (lane.state ≠ .disabled →
      exec (.disable l.byte) s = .next { s.answering (.disable l.byte) ⟨.done, []⟩ with
        plans := s.plans.set l { lane with
          state := .disabled, switch := none, timeout := none, settle := none, attempts := 0 }
        grants := s.grants.set l { s.grants.get l with
          outstanding := []
          lastClosure := match (s.grants.get l).outstanding.getLast? with
            | some x => some ⟨x.id, .laneReset, none⟩
            | none => (s.grants.get l).lastClosure }
        handed := s.handed ++ if (s.grants.get l).outstanding = [] then [] else [.drainNotice l] })

/-! ## Grant Engine -/

/-- A QUERY whose requested airtime lies outside 16 to 8,000 is answered NAK(MALFORMED), on a lane in any plan state. One
on a lane that is not SETTLED is refused with the reason of its plan state, and one on a SETTLED lane with two grants
outstanding with TOO_MANY. Nothing is granted and no id is used. -/
def Obligations.QueryIsRefused : Prop :=
  ∀ (s : State) (l : Lane) (m : Held) (a : Address) (d : Half) (answer : OutMsg), s.resetN = true →
    s.resets = [] → s.queryLane = some l → (s.links.get l).holder = some m →
    m.body = addressBytes a ++ halfBytes d → (s.links.get l).outbound.length < 16 →
    (((d.toNat < 16 ∨ 8000 < d.toNat) ∧ answer = .nak .malformed 0x01) ∨
      ((16 ≤ d.toNat ∧ d.toNat ≤ 8000) ∧
        (((s.plans.get l).state = .disabled ∧ answer = .refused .disabled) ∨
          (((s.plans.get l).state = .draining ∨ (s.plans.get l).state = .switching ∨
            (s.plans.get l).state = .unsynced) ∧ answer = .refused .switching) ∨
          ((s.plans.get l).state = .halted ∧ answer = .refused .halted) ∨
          ((s.plans.get l).state = .settled ∧ 2 ≤ (s.grants.get l).outstanding.length ∧ answer = .refused .tooMany)))) →
    exec .query s = .next { s with
      arbiter := l
      links := s.links.set l { s.links.get l with
        holder := none, outbound := (s.links.get l).outbound ++ [answer] } }

/-- While the tracker is not predicting, or in BYPASS, a QUERY on a SETTLED lane with a grant slot free is answered GO at
the earliest start E with cap D, on the full plan span for a 40 MHz plan and station and on its primary half otherwise,
and the grant is recorded with the guard, doubled for a STRAINED station, and its expiry time. -/
def Obligations.OpenQueryIsGrantedAtE : Prop :=
  ∀ (s : State) (l : Lane) (m : Held) (a : Address) (d : Half) (below : List PlanEntry) (top : PlanEntry),
    s.resetN = true → s.resets = [] → s.queryLane = some l → (s.links.get l).holder = some m →
    m.body = addressBytes a ++ halfBytes d → 16 ≤ d.toNat → d.toNat ≤ 8000 →
    (s.links.get l).outbound.length < 16 → (s.plans.get l).state = .settled →
    (s.plans.get l).stack = below ++ [top] → (s.grants.get l).outstanding.length < 2 →
    (s.tracker.state = .free ∨ s.tracker.state = .acquiring ∨ s.mode = .bypass) →
    ∃ x : Grant,
      exec .query s = .next { s with
        arbiter := l
        grants := s.grants.set l { s.grants.get l with
          outstanding := (s.grants.get l).outstanding ++ [x], nextId := x.id + 1 }
        links := s.links.set l { s.links.get l with
          holder := none
          outbound := (s.links.get l).outbound ++ [.go x.id x.start x.cap x.span x.flags] } } ∧
      x.id = (s.grants.get l).takeId ∧ x.cls = (s.terms a).cls ∧ x.cap = d.toNat ∧
      x.start = s.earliestStart l ∧ x.expiry = after x.start (x.cap + s.params.expiryMargin) ∧
      x.guard = (if (s.terms a).strained then 2 * (s.grants.get l).edgeGuard else (s.grants.get l).edgeGuard) ∧
      x.span = (if top.plan.width = .w40 ∧ (s.terms a).width = .w40 then top.plan else ⟨top.plan.primary, .w20⟩) ∧
      x.flags = { stranger := (s.terms a).stranger, strained := (s.terms a).strained, narrowed := false
                  holdover := decide (s.tracker.state = .holdover)
                  unpredicted := decide (s.tracker.state = .free ∨ s.tracker.state = .acquiring)
                  bypass := decide (s.mode = .bypass) }

/-- The lookup: a group address gives the group's terms; an individual address the terms of the one record that has it
as primary or alias, with that record's primary address; any other the stranger's. E is the air time plus GRANT_LEAD, or
the end of the other grant's window when that is later. -/
def Obligations.LookupGivesTheTerms : Prop :=
  (∀ (s : State) (a : Address), a.isGroup = true → s.terms a = ⟨.group, s.params.strangerFloor, .w20, false, false⟩) ∧
  (∀ (s : State) (a : Address) (k : StationSlot) (r : Station), s.StationsOk → a.isGroup = false →
    s.stations[k] = some r → (r.primary = a ∨ r.aliasAddr = some a) →
    s.terms a = ⟨.primary r.primary, r.floor, r.width, false, decide (r.condition = .strained)⟩) ∧
  (∀ (s : State) (a : Address), a.isGroup = false →
    (∀ (k : StationSlot) (r : Station), s.stations[k] = some r → r.primary ≠ a ∧ r.aliasAddr ≠ some a) →
    s.terms a = ⟨.stranger, s.params.strangerFloor, .w20, true, false⟩) ∧
  (∀ (s : State) (l : Lane), (s.grants.get l).outstanding = [] →
    s.earliestStart l = s.airTime + BitVec.ofNat 32 s.params.grantLead) ∧
  ∀ (s : State) (l : Lane) (x : Grant), (s.grants.get l).outstanding = [x] →
    let lead := s.airTime + BitVec.ofNat 32 s.params.grantLead
    let finish := x.start + BitVec.ofNat 32 x.cap
    s.earliestStart l = if 0 < (finish - lead).toNat ∧ (finish - lead).toNat < 2 ^ 31 then finish else lead

/-- Every GO issued in RUN while the tracker is predicting has a window that intersects no guarded on-window, for the
grant's own guard, of any counting CADENCED record that has a phase and overlaps the granted span: at every period j,
the window, measured from the reference, ends before the guarded burst begins or begins after it has ended. The window
starts less than one period after E, and its cap is at most the requested airtime. That times are measured by the signed
difference from the reference is the model's reading (log entry 7). -/
def Obligations.PredictedGrantIsClearOfBursts : Prop :=
  ∀ (s t : State) (l : Lane) (m : Held) (a : Address) (d : Half) (reference : AirTime) (x : Grant), s.resetN = true →
    s.resets = [] → s.params.Ok → s.tracker.Ok → s.TableOk → s.StationsOk → s.queryLane = some l →
    (s.links.get l).holder = some m → m.body = addressBytes a ++ halfBytes d → (s.tracker.state = .locked ∨ s.tracker.state = .holdover) →
    s.tracker.reference = some reference → s.mode = .run → exec .query s = .next t →
    (t.grants.get l).outstanding = (s.grants.get l).outstanding ++ [x] →
    x.cap ≤ d.toNat ∧ ∃ y : Nat, y < s.tracker.period ∧ x.start = s.earliestStart l + BitVec.ofNat 32 y ∧
      ∀ (k : Slot) (r : Interferer) (o φ : Nat) (j : Int), s.table[k] = some r → r.counting = true →
        r.emission = .cadenced o (some φ) → r.span.overlaps x.span.span = true →
        let start : Int := signedDiff reference (s.earliestStart l) + y
        let burst : Int := j * s.tracker.period + φ
        start + x.cap ≤ burst - x.guard ∨ burst + o + x.guard ≤ start

/-- The search finds the smallest offset t below P at which the window meets no blocking interval, and none exactly when
there is no such offset. The cap is the lesser of D and the distance from the start to the first blocking interval that
begins from there on. With the tracker predicting in RUN, a lane SETTLED and a grant slot free, a QUERY searches the
primary half for the lesser of D and the floor. With no clear start it is answered BLOCKED, with nothing recorded. With
one, a 20 MHz plan or station is answered GO there on the primary half; a 40 MHz plan and station GO there on the full
span when the full span's first clear start is the same, and otherwise on the primary half with NARROWED.
That E is measured from the reference by the signed difference is the model's reading (log entry 7). -/
def Obligations.PredictedQueryTakesTheFirstClearStart : Prop :=
  (∀ (p : Nat) (arcs : List Arc) (base : Int) (d : Nat), 0 < p →
      (∀ t, searchOffset p arcs base d = some t →
        t < p ∧ isClear p arcs (base + t) d = true ∧ ∀ u, u < t → isClear p arcs (base + u) d = false) ∧
      (searchOffset p arcs base d = none → ∀ u, u < p → isClear p arcs (base + u) d = false)) ∧
  (∀ (p : Nat) (arcs : List Arc) (x : Int) (d : Nat), 0 < p →
      let begins := fun (u : Nat) => ∃ a ∈ arcs, ∃ j : Int, a.start + j * p = x + u
      let cap := capAt p arcs x d
      cap ≤ d ∧ (∀ u, u < cap → ¬begins u) ∧ (cap = d ∨ begins cap)) ∧
  ∀ (s : State) (l : Lane) (m : Held) (a : Address) (d : Half) (below : List PlanEntry) (top : PlanEntry)
    (reference : AirTime), s.resetN = true → s.resets = [] → s.queryLane = some l →
    (s.links.get l).holder = some m → m.body = addressBytes a ++ halfBytes d → 16 ≤ d.toNat → d.toNat ≤ 8000 →
    (s.links.get l).outbound.length < 16 → (s.plans.get l).state = .settled →
    (s.plans.get l).stack = below ++ [top] → (s.grants.get l).outstanding.length < 2 →
    (s.tracker.state = .locked ∨ s.tracker.state = .holdover) → s.tracker.reference = some reference →
    s.mode = .run →
    let half : PlanSpan := ⟨top.plan.primary, .w20⟩
    let g := if (s.terms a).strained then 2 * (s.grants.get l).edgeGuard else (s.grants.get l).edgeGuard
    let flags := fun (narrowed : Bool) =>
      ({ stranger := (s.terms a).stranger, strained := (s.terms a).strained, narrowed := narrowed
         holdover := decide (s.tracker.state = .holdover), unpredicted := false, bypass := false } : GoFlags)
    let arcs := fun (p : PlanSpan) => s.blockingArcs p.span g
    let base := signedDiff reference (s.earliestStart l)
    let search := fun (p : PlanSpan) => searchOffset s.tracker.period (arcs p) base (min d.toNat (s.terms a).floor)
    let granted := fun (p : PlanSpan) (narrowed : Bool) (y : Nat) =>
      let start := after (s.earliestStart l) y
      let cap := capAt s.tracker.period (arcs p) (base + y) d.toNat
      let x : Grant := { id := (s.grants.get l).takeId, cls := (s.terms a).cls, span := p, start := start, cap := cap
                         guard := g, flags := flags narrowed, expiry := after start (cap + s.params.expiryMargin) }
      exec .query s = .next { s with
        arbiter := l
        grants := s.grants.set l { s.grants.get l with
          outstanding := (s.grants.get l).outstanding ++ [x], nextId := x.id + 1 }
        links := s.links.set l { s.links.get l with
          holder := none
          outbound := (s.links.get l).outbound ++ [.go x.id x.start x.cap x.span x.flags] } }
    (search half = none →
      exec .query s = .next { s with
        arbiter := l
        links := s.links.set l { s.links.get l with
          holder := none, outbound := (s.links.get l).outbound ++ [.blocked (flags false)] } }) ∧
    ∀ y, search half = some y →
      (¬(top.plan.width = .w40 ∧ (s.terms a).width = .w40) → granted half false y) ∧
      (top.plan.width = .w40 → (s.terms a).width = .w40 →
        (search top.plan = some y → granted top.plan false y) ∧
        (search top.plan ≠ some y → granted half true y))

/-- The arbiter takes the first lane that holds a QUERY in the order position + 1, position + 2, position + 3 modulo 3, and
answers none exactly when no lane holds one; its position is then the lane taken, whose holder is empty. -/
def Obligations.ArbiterRotates : Prop :=
  ∀ s : State,
    (s.queryLane = none ↔ ∀ l, s.holds l .query = false) ∧
    ∀ l, s.queryLane = some l →
      (s.holds l .query = true ∧
        ∀ m, s.holds m .query = true →
          (l.toNat + 2 - s.arbiter.toNat) % 3 ≤ (m.toNat + 2 - s.arbiter.toNat) % 3) ∧
      (s.resetN = true → s.resets = [] →
        ∃ t, exec .query s = .next t ∧ t.arbiter = l ∧ (t.links.get l).holder = none)

/-- A GO takes the lane's next grant id, or the value after it, modulo 256, when the other outstanding grant holds that;
the lane's next id is then the id taken plus 1. An answer that grants nothing leaves the next id as it is. -/
def Obligations.GrantIdsAreAssignedInTurn : Prop :=
  ∀ (s t : State), exec .query s = .next t → ∀ l,
    ((t.grants.get l).outstanding = (s.grants.get l).outstanding ∧
      (t.grants.get l).nextId = (s.grants.get l).nextId) ∨
    ∃ x : Grant, (t.grants.get l).outstanding = (s.grants.get l).outstanding ++ [x] ∧
      (s.grants.get l).outstanding.length < 2 ∧
      x.id = (if (s.grants.get l).outstanding.any (fun y => y.id == (s.grants.get l).nextId) then
        (s.grants.get l).nextId + 1 else (s.grants.get l).nextId) ∧
      (t.grants.get l).nextId = x.id + 1

/-- An OUTCOME for an id the lane does not hold is answered TOO_LATE, and a malformed one NAK(MALFORMED); nothing else
changes. An ABANDONED outcome of a held grant closes it and is answered ACCEPTED, moves no counter and no guard, and
hands a drain notice when it was the lane's last. -/
def Obligations.OutcomeClosesOrIsTooLate : Prop :=
  ∀ (s : State) (l : Lane) (m : Held) (id r : Byte) (used : Half), s.resetN = true → s.resets = [] →
    (s.links.get l).holder = some m → m.kind = .outcome → m.body = [id, r] ++ halfBytes used →
    (s.links.get l).outbound.length < 16 →
    let answered := fun (x : OutMsg) => s.links.set l { s.links.get l with
      holder := none, outbound := (s.links.get l).outbound ++ [x] }
    ((2 < r.toNat ∨ 8000 < used.toNat) →
      exec (.outcome l) s = .next { s with links := answered (.nak .malformed 0x02) }) ∧
    (r.toNat ≤ 2 → used.toNat ≤ 8000 → (∀ x ∈ (s.grants.get l).outstanding, x.id ≠ id) →
      exec (.outcome l) s = .next { s with links := answered (.outcomeAnswer .tooLate id) }) ∧
    ∀ (before after : List Grant) (x : Grant), r = 2 → used.toNat ≤ 8000 →
      (s.grants.get l).outstanding = before ++ x :: after → x.id = id → (∀ y ∈ before, y.id ≠ id) →
      exec (.outcome l) s = .next { s with
        links := answered (.outcomeAnswer .accepted id)
        grants := s.grants.set l { s.grants.get l with
          outstanding := before ++ after, lastClosure := some ⟨id, .abandoned, some used.toNat⟩ }
        handed := s.handed ++ if before ++ after = [] then [.drainNotice l] else [] }

/-- An OK outcome raises the lane's OK run; at GUARD_RELAX_RUN the run is cleared and the edge guard falls by GUARD_STEP,
not below GUARD_FLOOR. The answer, the counter claim of a grant that names a station, the guard-change notice of a guard
that moved and the drain notice of a lane left empty are handed in this order; the other outstanding grant stays. -/
def Obligations.OkOutcomeRelaxesTheGuard : Prop :=
  ∀ (s : State) (l : Lane) (m : Held) (id : Byte) (used : Half) (before after : List Grant) (x : Grant),
    s.resetN = true → s.resets = [] →
    (s.links.get l).holder = some m → m.kind = .outcome → m.body = [id, 0] ++ halfBytes used → used.toNat ≤ 8000 →
    (s.links.get l).outbound.length < 16 → (s.grants.get l).outstanding = before ++ x :: after → x.id = id →
    (∀ y ∈ before, y.id ≠ id) →
    let relax : Bool := decide (s.params.guardRelaxRun ≤ (s.grants.get l).okRun + 1)
    let guard := if relax then max ((s.grants.get l).edgeGuard - s.params.guardStep) s.params.guardFloor
      else (s.grants.get l).edgeGuard
    exec (.outcome l) s = .next { s with
      links := s.links.set l { s.links.get l with
        holder := none, outbound := (s.links.get l).outbound ++ [.outcomeAnswer .accepted id] }
      grants := s.grants.set l { s.grants.get l with
        outstanding := before ++ after, lastClosure := some ⟨id, .ok, some used.toNat⟩
        okRun := if relax then 0 else (s.grants.get l).okRun + 1, edgeGuard := guard }
      handed := s.handed ++
        (match x.cls with
          | .primary a => [.counterClaim a .ok]
          | .stranger => []
          | .group => []) ++
        (if guard = (s.grants.get l).edgeGuard then [] else [.guardChangeNotice l]) ++
        (if before ++ after = [] then [.drainNotice l] else []) }

/-- A LOST outcome clears the OK run and hands the counter claim; the other outstanding grant stays, and a lane left empty
gives its drain notice. While the tracker predicts, it widens the edge guard by GUARD_STEP, up to GUARD_CEILING, exactly
when the grant's window, extended by twice its guard at each end, meets a guarded on-window of a counting record that
overlaps its span at some period; and never while the tracker does not predict. That the window is measured from the
reference by the signed difference is the model's reading (log entry 7). -/
def Obligations.EdgeLossWidensTheGuard : Prop :=
  ∀ (s : State) (l : Lane) (m : Held) (id : Byte) (used : Half) (before after : List Grant) (x : Grant),
    s.resetN = true → s.resets = [] →
    s.tracker.Ok → (s.links.get l).holder = some m → m.kind = .outcome → m.body = [id, 1] ++ halfBytes used →
    used.toNat ≤ 8000 → (s.links.get l).outbound.length < 16 → (s.grants.get l).outstanding = before ++ x :: after →
    x.id = id → (∀ y ∈ before, y.id ≠ id) → 0 < x.cap →
    ∃ edge : Bool,
      (edge = true ↔ ∃ (reference : AirTime) (k : Slot) (r : Interferer) (o φ : Nat) (j : Int),
        (s.tracker.state = .locked ∨ s.tracker.state = .holdover) ∧ s.tracker.reference = some reference ∧
        s.table[k] = some r ∧ r.counting = true ∧ r.emission = .cadenced o (some φ) ∧
        r.span.overlaps x.span.span = true ∧ 0 < o + 2 * x.guard ∧
        (let start : Int := signedDiff reference x.start
         let burst : Int := j * s.tracker.period + φ
         start - 2 * x.guard < burst + o + x.guard ∧ burst - x.guard < start + x.cap + 2 * x.guard)) ∧
      (let guard := if edge then min ((s.grants.get l).edgeGuard + s.params.guardStep) s.params.guardCeiling
        else (s.grants.get l).edgeGuard
       exec (.outcome l) s = .next { s with
        links := s.links.set l { s.links.get l with
          holder := none, outbound := (s.links.get l).outbound ++ [.outcomeAnswer .accepted id] }
        grants := s.grants.set l { s.grants.get l with
          outstanding := before ++ after, lastClosure := some ⟨id, .lost, some used.toNat⟩, okRun := 0
          edgeGuard := guard }
        handed := s.handed ++
          (match x.cls with
            | .primary a => [.counterClaim a .lost]
            | .stranger => []
            | .group => []) ++
          (if guard = (s.grants.get l).edgeGuard then [] else [.guardChangeNotice l]) ++
          (if before ++ after = [] then [.drainNotice l] else []) })

/-- Expiry of a grant's timer closes the grant with EXPIRED, and hands a drain notice when it was the lane's last. Nothing
is sent on the link, no counter claim is handed, and neither the OK run nor the edge guard moves. -/
def Obligations.ExpiryClosesTheGrant : Prop :=
  ∀ (s : State) (l : Lane) (id : Byte) (before after : List Grant) (x : Grant), s.resetN = true → s.resets = [] →
    (s.grants.get l).outstanding = before ++ x :: after → x.id = id → (∀ y ∈ before, y.id ≠ id) →
    atOrAfter s.airTime x.expiry = true →
      exec (.grantExpiry l id) s = .next { s with
        grants := s.grants.set l { s.grants.get l with
          outstanding := before ++ after, lastClosure := some ⟨id, .expired, none⟩ }
        handed := s.handed ++ if before ++ after = [] then [.drainNotice l] else [] }

/-! ## Station Table -/

/-- A counter claim acts on the record whose primary address it carries, and on none when there is none. OK clears the
loss streak and raises the OK run, and at RECOVER_RUN a STRAINED record is NORMAL again without advice; LOST raises the
streak and clears the run, and at STRAIN_LOSSES a NORMAL record is STRAINED and a steering request is handed. -/
def Obligations.CounterClaimsMoveTheStation : Prop :=
  ∀ (s : State) (a : Address), s.resetN = true → s.resets = [] → s.StationsOk →
    (∀ result, (∀ (k : StationSlot) (r : Station), s.stations[k] = some r → r.primary ≠ a) →
      exec (.counterClaim a result) s = .next { s with handed := s.handed.erase (.counterClaim a result) }) ∧
    ∀ (k : StationSlot) (r : Station), s.stations[k] = some r → r.primary = a →
      (let run := min 15 (r.okRun + 1)
       let recovers : Bool := decide (r.condition = .strained ∧ s.params.recoverRun ≤ run)
       exec (.counterClaim a .ok) s = .next { s with
        handed := s.handed.erase (.counterClaim a .ok)
        stations := s.stations.set k (some { r with
          lossStreak := 0, okRun := run, condition := if recovers then .normal else r.condition
          advice := if recovers then none else r.advice })
        advised := if recovers then s.advised &&& ~~~(1#64 <<< (k.val + 1)) else s.advised }) ∧
      (let streak := min 15 (r.lossStreak + 1)
       let strains : Bool := decide (r.condition = .normal ∧ s.params.strainLosses ≤ streak)
       exec (.counterClaim a .lost) s = .next { s with
        handed := s.handed.erase (.counterClaim a .lost) ++
          if strains then [.steeringRequest ⟨k, r.primary, r.home, r.bands, r.width⟩] else []
        stations := s.stations.set k (some { r with
          lossStreak := streak, okRun := 0, condition := if strains then .strained else r.condition }) })

/-- A steering request is answered with the request's slot, address and home lane. Lanes are compared by the clear fraction of
their top plan, over its full span for a station of 40 MHz and its primary half for one of 20 MHz, with each lane's own edge
guard. A lane is named only if the home lane's is known; it is then the candidate of greatest clear fraction, the
lowest-numbered among equals: not the home lane, not DISABLED, of a band of the station, its fraction known and at least
STEER_MARGIN above the home lane's. A steering result is applied when the slot is ADMITTED, its record's primary address
equals the one carried, its condition is STRAINED and its home lane equals the one carried; otherwise it changes nothing.
Applied, a named lane becomes the record's advice and the slot enters the advised-station set; no lane leaves the advice as
it is. -/
def Obligations.SteeringIsRequestedAndApplied : Prop :=
  (∀ (s : State) (r : SteeringRequest), s.resetN = true → s.resets = [] →
      let compared := fun (p : PlanSpan) =>
        match r.width with
        | .w40 => p.span
        | .w20 => PlanSpan.span ⟨p.primary, .w20⟩
      let fraction := fun (l : Lane) =>
        ((s.plans.get l).stack.getLast?).bind fun top => s.clearFraction (compared top.plan) (s.grants.get l).edgeGuard
      ∃ named, exec (.steeringRequest r) s = .next { s with
          handed := s.handed.erase (.steeringRequest r) ++ [.steeringResult ⟨r.slot, r.primary, r.home, named⟩] } ∧
        (fraction r.home = none → named = none) ∧
        ∀ home, fraction r.home = some home →
          let candidate := fun l q => l ≠ r.home ∧ (s.plans.get l).state ≠ .disabled ∧
            r.bands.has (s.plans.get l).band = true ∧ fraction l = some q ∧ home + s.params.steerMargin ≤ q
          (named = none → ∀ l q, ¬candidate l q) ∧
          ∀ l, named = some l → ∃ q, candidate l q ∧
            ∀ m x, candidate m x → x < q ∨ (x = q ∧ l.toNat ≤ m.toNat)) ∧
  ∀ (s : State) (x : SteeringResult), s.resetN = true → s.resets = [] →
    (∀ r l, s.stations[x.slot] = some r → r.primary = x.primary → r.condition = .strained → r.home = x.home →
      x.named = some l →
      exec (.steeringResult x) s = .next { s with
        handed := s.handed.erase (.steeringResult x)
        stations := s.stations.set x.slot (some { r with advice := some l })
        advised := s.advised ||| 1#64 <<< (x.slot.val + 1) }) ∧
    ((x.named = none ∨ s.stations[x.slot] = none ∨
        ∃ r, s.stations[x.slot] = some r ∧
          (r.primary ≠ x.primary ∨ r.condition ≠ .strained ∨ r.home ≠ x.home)) →
      exec (.steeringResult x) s = .next { s with handed := s.handed.erase (.steeringResult x) })

/-- ADMIT places a record with the values of its arguments, counters 0, NORMAL and no advice, in the lowest-numbered
FREE slot. Its checks come in order: BAD_ARGUMENT for a group address, for bytes that name no bands, no width or no home
lane and for a floor out of range, DUPLICATE for an alias equal to the primary or an address in use, FULL for a table
without a FREE slot. -/
def Obligations.AdmitPlacesAStation : Prop :=
  ∀ (s : State) (a : AdmitArgs), s.ready = true →
    let c : Instr := .admitStation a
    let refusedWith := fun (x : Status) => exec c s = .next (s.answering c ⟨x, []⟩)
    let bad := a.primary.isGroup = true ∨ (∃ x, a.aliasAddr = some x ∧ x.isGroup = true) ∨
      (∀ y : BandSet, y.byte ≠ a.bands) ∨ (∀ y : Width, y.byte ≠ a.width) ∨ (∀ y : Lane, y.byte ≠ a.home) ∨
      ∃ x, a.floor = some x ∧ (x.toNat < 50 ∨ 2000 < x.toNat)
    let used := fun (x : Address) => ∃ (k : StationSlot) (r : Station), s.stations[k] = some r ∧
      (r.primary = x ∨ r.aliasAddr = some x)
    let duplicate := a.aliasAddr = some a.primary ∨ used a.primary ∨ ∃ x, a.aliasAddr = some x ∧ used x
    (bad → refusedWith .badArgument) ∧ (¬bad → duplicate → refusedWith .duplicate) ∧
    (¬bad → ¬duplicate → (∀ k : StationSlot, s.stations[k] ≠ none) → refusedWith .full) ∧
    ∀ (k : StationSlot) (bands : BandSet) (width : Width) (home : Lane), ¬bad → ¬duplicate → a.bands = bands.byte →
      a.width = width.byte → a.home = home.byte → s.stations[k] = none →
      (∀ j : StationSlot, j < k → s.stations[j] ≠ none) →
      exec c s = .next { s.answering c ⟨.done, [natByte (k.val + 1)]⟩ with
        stations := s.stations.set k (some {
          primary := a.primary, aliasAddr := a.aliasAddr, bands := bands, width := width, home := home
          floor := (a.floor.map (·.toNat)).getD 200, lossStreak := 0, okRun := 0, condition := .normal
          advice := none }) }

/-- RELEASE frees an ADMITTED slot and takes it out of the advised-station set. The station AMEND writes the fields given
and keeps the rest; a home lane changed to a different one clears the advice, with the slot leaving the set. Its checks
come in order, the slot's as RELEASE makes them: BAD_ARGUMENT above slot 63, REFUSED for slot 0, NOT_FOUND for a FREE slot,
then BAD_ARGUMENT for a group address or a field out of range, and DUPLICATE for an alias equal to the record's primary
address or in use by another record. -/
def Obligations.ReleaseAndStationAmend : Prop :=
  ∀ (s : State) (a : StationAmendArgs), s.ready = true → s.resets = [] →
    let release := Instr.release a.slot
    let amend := Instr.stationAmend a
    let refusedWith := fun (c : Instr) (x : Status) => exec c s = .next (s.answering c ⟨x, []⟩)
    (a.slot.toNat = 0 → refusedWith release .refused ∧ refusedWith amend .refused) ∧
    (64 ≤ a.slot.toNat → refusedWith release .badArgument ∧ refusedWith amend .badArgument) ∧
    ∀ k : StationSlot, a.slot.toNat = k.val + 1 →
      (s.stations[k] = none → refusedWith release .notFound ∧ refusedWith amend .notFound) ∧
      ∀ r, s.stations[k] = some r →
        exec release s = .next { s.answering release ⟨.done, []⟩ with
          stations := s.stations.set k none, advised := s.advised &&& ~~~(1#64 <<< (k.val + 1)) } ∧
        (let bad := (∃ x, a.aliasAddr = .value x ∧ x.isGroup = true) ∨
            (∃ x, a.bands = some x ∧ ∀ y : BandSet, y.byte ≠ x) ∨ (∃ x, a.width = some x ∧ ∀ y : Width, y.byte ≠ x) ∨
            (∃ x, a.home = some x ∧ ∀ y : Lane, y.byte ≠ x) ∨
            ∃ x, a.floor = some x ∧ (x.toNat < 50 ∨ 2000 < x.toNat)
         let taken := ∃ x, a.aliasAddr = .value x ∧ (x = r.primary ∨ ∃ (j : StationSlot) (q : Station), j ≠ k ∧
            s.stations[j] = some q ∧ (q.primary = x ∨ q.aliasAddr = some x))
         (bad → refusedWith amend .badArgument) ∧ (¬bad → taken → refusedWith amend .duplicate) ∧
         ∀ (bands : Option BandSet) (width : Option Width) (home : Option Lane), ¬bad → ¬taken →
          a.bands = bands.map (·.byte) → a.width = width.map (·.byte) → a.home = home.map (·.byte) →
          exec amend s = .next { s.answering amend ⟨.done, []⟩ with
            stations := s.stations.set k (some { r with
              aliasAddr := match a.aliasAddr with
                | .omitted => r.aliasAddr
                | .value x => some x
                | .remove => none
              bands := bands.getD r.bands, width := width.getD r.width, home := home.getD r.home
              floor := (a.floor.map (·.toNat)).getD r.floor
              advice := if home.getD r.home = r.home then r.advice else none })
            advised := if home.getD r.home = r.home then s.advised else s.advised &&& ~~~(1#64 <<< (k.val + 1)) })

/-! ## Interferer Table and claims -/

/-- PLACE goes into the lowest-numbered EMPTY slot as PINNED and PLACED with confidence and misses 0; the slot gives one
notice and enters the changed-interferer set. A CADENCED record takes an on-duration and may take a phase, which is stored
only while the tracker is predicting and otherwise dropped with the PHASE_DROPPED mark; a STEADY or SPORADIC one takes a
duty. Any argument missing, in excess or out of its range is BAD_ARGUMENT, as is a CADENCED record outside band L; then a
table with no EMPTY slot is FULL. -/
def Obligations.PlaceCreatesAPinnedRecord : Prop :=
  ∀ (s : State) (a : PlaceArgs), s.ready = true → s.resets = [] →
    let c : Instr := .place a
    let span : Span := ⟨a.first.toNat, a.count.toNat⟩
    let spanAndLevel := span.isInterfererSpan = true ∧ a.band = span.band.byte ∧ a.level.toNat ≤ 63
    let oven := fun (on : Half) => spanAndLevel ∧ a.kind.toNat = 0 ∧ span.band = .l ∧ a.duty = none ∧
      a.onDuration = some on ∧ 500 ≤ on.toNat ∧ on.toNat + 500 ≤ s.tracker.period ∧
      ∀ φ, a.phase = some φ → φ.toNat < s.tracker.period
    let other := fun (duty : Byte) => spanAndLevel ∧ (a.kind.toNat = 1 ∨ a.kind.toNat = 2) ∧ a.duty = some duty ∧
      duty.toNat ≤ 64 ∧ a.onDuration = none ∧ a.phase = none
    ((∀ on, ¬oven on) → (∀ duty, ¬other duty) → exec c s = .next (s.answering c ⟨.badArgument, []⟩)) ∧
    ((∀ k : Slot, s.table[k] ≠ none) → ((∃ on, oven on) ∨ ∃ duty, other duty) →
      exec c s = .next (s.answering c ⟨.full, []⟩)) ∧
    ∀ k : Slot, s.table[k] = none → (∀ j : Slot, j < k → s.table[j] ≠ none) →
      let placed := fun (e : Emission) (dropped : Bool) =>
        exec c s = .next { s.answering c ⟨.done, [natByte k.val, mark dropped]⟩ with
          table := s.table.set k (some {
            emission := e, span := span, level := a.level.toNat, confidence := 0, misses := 0, life := .pinned
            origin := .placed })
          changed := s.changed ||| 1#32 <<< k.val, handed := s.handed ++ [.changeNotice k] }
      (∀ on, oven on → placed (.cadenced on.toNat (if s.tracker.predicting then a.phase.map (·.toNat) else none))
        (a.phase.isSome && !s.tracker.predicting)) ∧
      ∀ duty, other duty → placed (if a.kind.toNat = 1 then .steady duty.toNat else .sporadic duty.toNat) false

/-- PIN makes a TENTATIVE, CONFIRMED or FADING record PINNED with misses 0, and UNPIN makes a PINNED record CONFIRMED
with misses 0, each with a notice and an entry in the set; PIN of a PINNED record completes and changes nothing, and
UNPIN of any other is refused with REFUSED. An EMPTY slot is NOT_FOUND, and a slot above 31 BAD_ARGUMENT. That an
answer without items has an empty body is the model's reading (log entry 8). -/
def Obligations.PinAndUnpin : Prop :=
  ∀ (s : State) (n : Byte), s.ready = true → s.resets = [] →
    let answered := fun (c : Instr) (x : Status) => exec c s = .next (s.answering c ⟨x, []⟩)
    (32 ≤ n.toNat → answered (.pin n) .badArgument ∧ answered (.unpin n) .badArgument) ∧
    ∀ k : Slot, n.toNat = k.val →
      (s.table[k] = none → answered (.pin n) .notFound ∧ answered (.unpin n) .notFound) ∧
      ∀ r, s.table[k] = some r →
        let moved := fun (c : Instr) (life : Life) => exec c s = .next { s.answering c ⟨.done, []⟩ with
          table := s.table.set k (some { r with life := life, misses := 0 })
          changed := s.changed ||| 1#32 <<< k.val, handed := s.handed ++ [.changeNotice k] }
        (r.life = .pinned → answered (.pin n) .done ∧ moved (.unpin n) .confirmed) ∧
        (r.life ≠ .pinned → moved (.pin n) .pinned ∧ answered (.unpin n) .refused)

/-- The interferer AMEND writes the given fields of a PINNED record and keeps the rest: span, level, and for a CADENCED
record on-duration and phase, for another kind and duty. A phase given while the tracker is not predicting is dropped with
the PHASE_DROPPED mark. A change of span, kind, duty or on-duration, and a phase gained or lost, give a notice and an entry
in the set; another value of a phase gives a notice alone; a level gives neither. A field that the record's kind does not
have or that is out of its range is BAD_ARGUMENT; before that, a slot above 31 is BAD_ARGUMENT, an EMPTY slot NOT_FOUND,
and a record that is not PINNED REFUSED. -/
def Obligations.AmendWritesAPinnedRecord : Prop :=
  ∀ (s : State) (a : InterfererAmendArgs), s.ready = true → s.resets = [] →
    let c : Instr := .interfererAmend a
    let refusedWith := fun (x : Status) => exec c s = .next (s.answering c ⟨x, []⟩)
    (32 ≤ a.slot.toNat → refusedWith .badArgument) ∧
    (∀ k : Slot, a.slot.toNat = k.val → s.table[k] = none → refusedWith .notFound) ∧
    ∀ (k : Slot) (r : Interferer), s.table[k] = some r → a.slot.toNat = k.val →
    let span : Span := (a.span.map fun x => ⟨x.1.toNat, x.2.toNat⟩).getD r.span
    let spanAndLevel := (a.span ≠ none → span.isInterfererSpan = true ∧ span.band = r.span.band) ∧
      ∀ x, a.level = some x → x.toNat ≤ 63
    let amended := fun (e : Emission) =>
      let q := { r with span := span, level := (a.level.map (·.toNat)).getD r.level, emission := e }
      let entered : Bool := decide (q.span ≠ r.span) || decide (e.withoutPhase ≠ r.emission.withoutPhase) ||
        decide (q.phase.isSome ≠ r.phase.isSome)
      exec c s = .next { s.answering c ⟨.done, [mark (a.phase.isValue && !s.tracker.predicting)]⟩ with
        table := s.table.set k (some q)
        changed := if entered then s.changed ||| 1#32 <<< k.val else s.changed
        handed := if entered || decide (q.phase ≠ r.phase) then s.handed ++ [.changeNotice k] else s.handed }
    (r.life ≠ .pinned → refusedWith .refused) ∧
    (r.life = .pinned →
      (∀ o φ, r.emission = .cadenced o φ →
        let ok := spanAndLevel ∧ a.kind = none ∧ a.duty = none ∧
          (∀ x, a.onDuration = some x → 500 ≤ x.toNat ∧ x.toNat + 500 ≤ s.tracker.period) ∧
          ∀ x, a.phase = .value x → x.toNat < s.tracker.period
        (¬ok → refusedWith .badArgument) ∧
        (ok → amended (.cadenced ((a.onDuration.map (·.toNat)).getD o)
          (match a.phase with
            | .omitted => φ
            | .value x => if s.tracker.predicting then some x.toNat else none
            | .remove => none)))) ∧
      ∀ d, (r.emission = .steady d ∨ r.emission = .sporadic d) →
        let ok := spanAndLevel ∧ (∀ x, a.kind = some x → x.toNat = 1 ∨ x.toNat = 2) ∧
          (∀ x, a.duty = some x → x.toNat ≤ 64) ∧ a.onDuration = none ∧ a.phase = .omitted
        let duty := (a.duty.map (·.toNat)).getD d
        (¬ok → refusedWith .badArgument) ∧
        (ok → (a.kind = some 1 ∨ (a.kind = none ∧ r.emission = .steady d)) → amended (.steady duty)) ∧
        (ok → (a.kind = some 2 ∨ (a.kind = none ∧ r.emission = .sporadic d)) → amended (.sporadic duty)))

/-- RETIRE of a slot above 31 is BAD_ARGUMENT, and of an EMPTY slot NOT_FOUND. Otherwise it empties the slot with a
notice and an entry in the set. When the record was the tracker's anchor, the anchor moves within the same claim to the
lowest-numbered slot with a CADENCED record, at that record's phase while predicting; with none left the tracker enters
FREE, keeps its period, and hands its notice and CADENCE_CHANGE. The order of the handed work is the model's choice (log
entry 5). -/
def Obligations.RetireRemovesTheRecord : Prop :=
  ∀ (s : State) (n : Byte), s.ready = true → s.resets = [] →
    let c : Instr := .retire n
    (32 ≤ n.toNat → exec c s = .next (s.answering c ⟨.badArgument, []⟩)) ∧
    (∀ k : Slot, n.toNat = k.val → s.table[k] = none → exec c s = .next (s.answering c ⟨.notFound, []⟩)) ∧
    ∀ (k : Slot) (r : Interferer), n.toNat = k.val → s.table[k] = some r →
    let removed := s.table.set k none
    (s.tracker.anchor ≠ some k →
      exec c s = .next { s.answering c ⟨.done, []⟩ with
        table := removed
        changed := s.changed ||| 1#32 <<< k.val, handed := s.handed ++ [.changeNotice k] }) ∧
    (∀ (j : Slot) (q : Interferer), s.tracker.anchor = some k → removed[j] = some q → q.isCadenced = true →
      (∀ (i : Slot) (p : Interferer), i < j → removed[i] = some p → p.isCadenced = false) →
      exec c s = .next { s.answering c ⟨.done, []⟩ with
        table := removed
        tracker := { s.tracker with
          anchor := some j, outliers := 0, anchorMisses := 0
          anchorOffset := if s.tracker.predicting then q.phase.getD 0 else 0 }
        changed := s.changed ||| 1#32 <<< k.val, handed := s.handed ++ [.changeNotice k] }) ∧
    (s.tracker.anchor = some k → (∀ (i : Slot) (p : Interferer), removed[i] = some p → p.isCadenced = false) →
      exec c s = .next { s.answering c ⟨.done, []⟩ with
        table := removed
        tracker := { Tracker.reset with period := s.tracker.period }
        changed := s.changed ||| 1#32 <<< k.val
        handed := s.handed ++
          [.cadenceStateNotice, .attentionSetRequest .cadenceChange, .changeNotice k] })

/-! ## Survey Intake -/

/-- A SURVEY that fails a check of its rule is discarded whole with NAK(MALFORMED). An accepted one sets the age of every
slice read to 0, raises the other ages of its band by 1 up to 255 and keeps those of the other band; it changes no
station, plan, grant or parameter. Of the records of the other band it keeps all but TENTATIVE ones (evictable) and CADENCED
ones (which may lose a phase).

One hot reading without a burst, over which no record lies, creates a TENTATIVE, LEARNED record with confidence 1, STEADY
or SPORADIC by STEADY_FLOOR, with one notice, one entry in the set and no report: in slot 0 of an empty table; in a full
one, in the slot of the TENTATIVE record of least confidence, then most misses, then lowest slot, which it evicts; with
none to evict it is dropped with TABLE_FULL. With the tracker FREE and the table empty, one burst of a dwell of 15,000 µs
or more creates a CADENCED record without a phase, reported as its rise. Over the anchor's record, alone in the table,
such a burst within MATCH_TOL of its phase matches it and is reported as its rise; a reading that is not hot is reported
as an anchor miss.

Of any number of readings, the hot ones form observations, cut and in band H divided as the rules say, each with its span,
greatest level and busy fraction, burst and guess. The event takes them in order (what each does is stated with the
matches). Then every record of the band not taken, not PINNED and covered by the survey is charged one miss, and no other;
one that fades or is removed gives a notice and enters the set. When the anchor's record has left the table the anchor
moves, or the tracker is freed. The report comes last: the rise of the anchor's observation, or an anchor miss when the
anchor was covered and not taken; with no anchor the rise of the first CADENCED observation taken. Bursts are placed by
the signed difference (log entry 7); the order of the handed work is the model's choice (log entry 5). -/
def Obligations.SurveyUpdatesCoverageAndTable : Prop :=
  (∀ (s : State) (l : Lane) (m : Held), s.resetN = true → s.resets = [] → s.surveyLane = some l →
      (s.links.get l).holder = some m →
      (s.surveyOf? l m.body = none → (s.links.get l).outbound.length < 16 →
        exec .survey s = .next { s with
          links := s.links.set l { s.links.get l with
            holder := none, outbound := (s.links.get l).outbound ++ [.nak .malformed 0x03] } }) ∧
      ∀ v, s.surveyOf? l m.body = some v →
        ∃ t, exec .survey s = .next t ∧
          t = { s with
            links := s.links.set l { s.links.get l with holder := none }
            coverage := t.coverage, table := t.table, tracker := t.tracker, changed := t.changed, handed := t.handed } ∧
          (∀ i : Fin 48, t.coverage[i] =
            if ∃ r ∈ v.readings, r.slice = i.val then 0
            else if Band.ofSlice i.val = v.band then min 255 (s.coverage[i] + 1) else s.coverage[i]) ∧
          ∀ (k : Slot) (r : Interferer), s.table[k] = some r → r.span.band ≠ v.band → r.isCadenced = false →
            r.life ≠ .tentative → t.table[k] = some r) ∧
  (∀ (p : Params) (v : Survey), v.valid = true →
      ∃ parts, v.Parts p parts ∧
        List.Forall₂ (fun part o => Observation.Describes p v part o) parts (observations p v)) ∧
  (∀ (s : State) (l : Lane) (m : Held) (v : Survey), s.resetN = true → s.resets = [] → s.tracker.Ok →
      s.surveyLane = some l → (s.links.get l).holder = some m → s.surveyOf? l m.body = some v →
      let i := (observations s.params v).foldl (Intake.take s) ⟨s.table, .none, [], 0, false⟩
      let charged := fun (k : Slot) (r : Interferer) =>
        r.span.band = v.band ∧ (∀ x ∈ i.taken, x.1 ≠ k) ∧ r.life ≠ .pinned ∧ v.Covers s.tracker r
      let fades := fun (k : Slot) => ∃ r, i.table[k] = some r ∧ charged k r ∧
        ∀ q, r.missed s.params = some q → q.life ≠ r.life
      let gone := i.anchorGone = true ∨ ∃ k r, s.tracker.anchor = some k ∧ i.table[k] = some r ∧ charged k r ∧
        r.missed s.params = none
      ∃ (t : State) (noticed : Slot → Bool) (cadence report : List Handed), exec .survey s = .next t ∧
        (∀ k : Slot, i.table[k] = none → t.table[k] = none) ∧
        (∀ (k : Slot) (r : Interferer), i.table[k] = some r →
          (charged k r → t.table[k] = r.missed s.params) ∧ (¬charged k r → t.table[k] = some r)) ∧
        (∀ k : Slot, t.changed.getLsbD k.val = true ↔
          s.changed.getLsbD k.val = true ∨ i.marks.entered.getLsbD k.val = true ∨ fades k) ∧
        (∀ k : Slot, noticed k = true ↔ i.marks.noticed.getLsbD k.val = true ∨ fades k) ∧
        t.handed = s.handed ++ List.replicate i.dropped (.attentionSetRequest .tableFull) ++ cadence ++
          ((List.finRange 32).filter noticed).map .changeNotice ++ report ∧
        (¬gone → t.tracker = s.tracker ∧ cadence = []) ∧
        (∀ (j : Slot) (q : Interferer), gone → t.table[j] = some q → q.isCadenced = true →
          (∀ (k : Slot) (r : Interferer), k < j → t.table[k] = some r → r.isCadenced = false) →
          t.tracker = { s.tracker with
            anchor := some j, outliers := 0, anchorMisses := 0
            anchorOffset := if s.tracker.predicting then q.phase.getD 0 else 0 } ∧ cadence = []) ∧
        (gone → (∀ (k : Slot) (r : Interferer), t.table[k] = some r → r.isCadenced = false) →
          t.tracker = { Tracker.reset with period := s.tracker.period } ∧
          cadence = [.cadenceStateNotice, .attentionSetRequest .cadenceChange]) ∧
        (∀ (pre post : List (Slot × Observation)) (k : Slot) (o : Observation) (start : AirTime) (length : Nat),
          i.taken = pre ++ (k, o) :: post → o.burst = some (start, length) →
          (t.tracker.anchor = some k → (∀ x ∈ pre, x.1 ≠ k) → report = [.riseReport k start]) ∧
          (t.tracker.anchor = none → o.guess = .cadenced → (∀ x ∈ pre, x.2.guess ≠ .cadenced) →
            report = [.riseReport k start])) ∧
        (t.tracker.anchor = none → (∀ x ∈ i.taken, x.2.guess ≠ .cadenced) → report = []) ∧
        ∀ (k : Slot) (r : Interferer), t.tracker.anchor = some k → (∀ x ∈ i.taken, x.1 ≠ k) → t.table[k] = some r →
          (v.Covers s.tracker r → report = [.anchorMissReport k]) ∧ (¬v.Covers s.tracker r → report = [])) ∧
  ∀ (s : State) (l : Lane) (m : Held) (v : Survey) (x : Reading), s.resetN = true → s.resets = [] →
    s.surveyLane = some l → (s.links.get l).holder = some m → s.surveyOf? l m.body = some v → v.readings = [x] →
    let swept : State := { s with
      links := s.links.set l { s.links.get l with holder := none }, coverage := coverageAfter v s.coverage }
    let hot := s.params.detectLevel ≤ x.level
    let learned := fun (e : Emission) => ({ emission := e, span := ⟨x.slice, 1⟩, level := x.level, confidence := 1, misses := 0
                                            life := .tentative, origin := .learned } : Interferer)
    let quiet := learned (if s.params.steadyFloor ≤ x.busy then .steady x.busy else .sporadic x.busy)
    let worse := fun (j k : Slot) (q r : Interferer) =>
      r.confidence < q.confidence ∨ (r.confidence = q.confidence ∧
        (q.misses < r.misses ∨ (q.misses = r.misses ∧ k < j)))
    (hot → x.burst = none → (∀ k : Slot, s.table[k] = none) → s.tracker.anchor = none →
      exec .survey s = .next { swept with
        table := s.table.set 0 (some quiet), changed := s.changed ||| 1#32, handed := s.handed ++ [.changeNotice 0] }) ∧
    (hot → x.burst = none → s.TableOk → (∀ k : Slot, s.table[k] ≠ none) →
      (∀ (k : Slot) (r : Interferer), s.table[k] = some r → r.span.overlaps ⟨x.slice, 1⟩ = false) →
      ((∀ (k : Slot) (r : Interferer), s.table[k] = some r → r.life ≠ .tentative) →
        exec .survey s = .next { swept with handed := s.handed ++ [.attentionSetRequest .tableFull] }) ∧
      ∀ (k : Slot) (r : Interferer), s.table[k] = some r → r.life = .tentative → s.tracker.anchor ≠ some k →
        (∀ (j : Slot) (q : Interferer), j ≠ k → s.table[j] = some q → q.life = .tentative → worse j k q r) →
        exec .survey s = .next { swept with
          table := s.table.set k (some quiet), changed := s.changed ||| 1#32 <<< k.val
          handed := s.handed ++ [.changeNotice k] }) ∧
    ∀ rise fall : Nat, x.burst = some (rise, fall) → v.band = .l → 15000 ≤ v.length →
      let start := after v.start rise
      (hot → (∀ k : Slot, s.table[k] = none) → s.tracker.anchor = none → s.tracker.state = .free →
        let on := min (max (fall - rise) 500) (s.tracker.period - 500)
        1000 ≤ s.tracker.period →
        exec .survey s = .next { swept with
          table := s.table.set 0 (some (learned (.cadenced on none))), changed := s.changed ||| 1#32
          handed := s.handed ++ [.changeNotice 0, .riseReport 0 start] }) ∧
      ∀ (k : Slot) (r : Interferer) (o : Nat) (φ : Option Nat), s.tracker.anchor = some k → s.table[k] = some r →
        (∀ j : Slot, j ≠ k → s.table[j] = none) → r.emission = .cadenced o φ → r.span.first ≤ x.slice →
        x.slice < r.span.first + r.span.count → r.span.band = .l →
        (hot →
          (∀ (f : Nat) (reference : AirTime), φ = some f → s.tracker.predicting = true →
            s.tracker.reference = some reference →
            let step := shortestStep s.tracker.period f (onCircle s.tracker.period (signedDiff reference start))
            step ≤ s.params.matchTol ∧ -(s.params.matchTol : Int) ≤ step) →
          ∃ (t : State) (notices : List Handed), exec .survey s = .next t ∧ (∀ n ∈ notices, n = .changeNotice k) ∧
            t.table[k] = some (r.matched s.params s.tracker
              { span := ⟨x.slice, 1⟩, level := x.level, busy := x.busy, burst := some (start, fall - rise)
                guess := .cadenced }) ∧
            t.tracker = s.tracker ∧ t.handed = s.handed ++ notices ++ [.riseReport k start]) ∧
        (¬hot → r.life = .pinned → φ = none →
          exec .survey s = .next { swept with handed := s.handed ++ [.anchorMissReport k] })

/-- An observation matches the candidate of greatest overlap, the lowest slot among equals, and the record is then taken for
the rest of the survey. With no candidate it creates a record in the lowest EMPTY slot; in a full table it evicts the
TENTATIVE record not yet taken of least confidence, then most misses, then lowest slot; with none it is dropped. A slot whose
record changed in life state, or while counting in span, kind, duty, on-duration or phase presence, gives a notice and enters
the set; another value of a phase gives a notice alone. A new record is TENTATIVE and LEARNED with confidence 1, CADENCED
with a clamped on-duration and the observed phase while the tracker is predicting, STEADY or SPORADIC with the busy fraction
as its duty. Phases are observed by the signed difference from the reference (log entry 7).

A match raises the confidence, up to 15, and clears the misses; a TENTATIVE record at CONFIRM_COUNT and a FADING one
become CONFIRMED. A record that is not PINNED takes the observation's span and level; a STEADY or SPORADIC one a duty a
quarter of the way toward the observation, rounded up, and the kind that duty gives; a CADENCED one an on-duration a quarter
of the way toward the burst's length, clamped, and while the tracker is predicting the observed phase outright, or a
quarter of the step toward it when it has one. A PINNED one keeps all of these, and gains a phase only when it has none
while the tracker is predicting. A miss raises the misses, up to 255, and fades or removes the record at its limits. -/
def Obligations.MatchesAndMissesMoveTheRecord : Prop :=
  (∀ (s : State) (i : Intake) (o : Observation),
      let candidate := i.IsCandidate s.params s.tracker o
      let put := fun (k : Slot) (q : Interferer) (marks : Marks) =>
        { i with table := i.table.set k (some q), marks := i.marks.join marks, taken := i.taken ++ [(k, o)] }
      let evictable := fun (k : Slot) (r : Interferer) =>
        i.table[k] = some r ∧ r.life = .tentative ∧ ∀ x ∈ i.taken, x.1 ≠ k
      let worse := fun (j k : Slot) (q r : Interferer) => r.confidence < q.confidence ∨ (r.confidence = q.confidence ∧
        (q.misses < r.misses ∨ (q.misses = r.misses ∧ k ≤ j)))
      (∀ k r n, i.table[k] = some r → candidate k n → (∀ j m, candidate j m → m < n ∨ (m = n ∧ k ≤ j)) →
        Intake.take s i o =
          put k (r.matched s.params s.tracker o) (changeMarks k r (r.matched s.params s.tracker o))) ∧
      ((∀ k n, ¬candidate k n) →
        (∀ k : Slot, i.table[k] = none → (∀ j : Slot, j < k → i.table[j] ≠ none) →
          Intake.take s i o = put k (o.record s.tracker) (.both k)) ∧
        ((∀ k : Slot, i.table[k] ≠ none) →
          (∀ k r, evictable k r → (∀ j q, evictable j q → worse j k q r) →
            Intake.take s i o = { put k (o.record s.tracker) (.both k) with
              anchorGone := i.anchorGone || decide (s.tracker.anchor = some k) }) ∧
          ((∀ k r, ¬evictable k r) → Intake.take s i o = { i with dropped := i.dropped + 1 })))) ∧
  (∀ (k j : Slot) (old new : Interferer) (m n : Marks),
      let whole := old.life ≠ new.life ∨ (new.counting = true ∧ (old.span ≠ new.span ∨
        old.emission.withoutPhase ≠ new.emission.withoutPhase ∨ old.phase.isSome ≠ new.phase.isSome))
      ((changeMarks k old new).entered.getLsbD j.val = true ↔ j = k ∧ whole) ∧
      ((changeMarks k old new).noticed.getLsbD j.val = true ↔
        j = k ∧ (whole ∨ (new.counting = true ∧ old.phase ≠ new.phase))) ∧
      ((Marks.both k).entered.getLsbD j.val = true ↔ j = k) ∧ ((Marks.both k).noticed.getLsbD j.val = true ↔ j = k) ∧
      (m.join n).entered = m.entered ||| n.entered ∧ (m.join n).noticed = m.noticed ||| n.noticed) ∧
  (∀ (t : Tracker) (o : Observation),
      let q := o.record t
      q.span = o.span ∧ q.level = o.level ∧ q.confidence = 1 ∧ q.misses = 0 ∧ q.life = .tentative ∧
      q.origin = .learned ∧ (o.guess = .steady → q.emission = .steady o.busy) ∧
      (o.guess = .sporadic → q.emission = .sporadic o.busy) ∧
      ∀ (start : AirTime) (length : Nat), o.guess = .cadenced → o.burst = some (start, length) → 1000 ≤ t.period →
        let on := min (max length 500) (t.period - 500)
        ((t.state = .free ∨ t.state = .acquiring) → q.emission = .cadenced on none) ∧
        ∀ reference, (t.state = .locked ∨ t.state = .holdover) → t.reference = some reference →
          q.emission = .cadenced on (some (signedDiff reference start % (t.period : Int)).toNat)) ∧
  ∀ (p : Params) (t : Tracker) (o : Observation) (r : Interferer),
    (let q := r.matched p t o
     q.confidence = min 15 (r.confidence + 1) ∧ q.misses = 0 ∧ q.origin = r.origin ∧
     q.isCadenced = r.isCadenced ∧
     q.life = (if (r.life = .tentative ∧ p.confirmCount ≤ min 15 (r.confidence + 1)) ∨ r.life = .fading then .confirmed
      else r.life) ∧
     (r.life = .pinned → q.span = r.span ∧ q.level = r.level ∧
      q.emission.withoutPhase = r.emission.withoutPhase ∧ (r.phase.isSome = true → q.phase = r.phase)) ∧
     (r.life ≠ .pinned → q.span = o.span ∧ q.level = o.level ∧
      ∀ d, r.emission.duty = some d →
        let duty := (3 * d + o.busy + 3) / 4
        q.emission = if p.steadyFloor ≤ duty then .steady duty else .sporadic duty) ∧
     (∀ (on : Nat) (φ : Option Nat), r.emission = .cadenced on φ →
      (o.burst = none → q.emission = r.emission) ∧
      ∀ (start : AirTime) (length : Nat), o.burst = some (start, length) →
        let aim : Int := on + ((length : Int) - on).tdiv 4
        let most := t.period - 500
        (r.life ≠ .pinned → q.emission.onDuration =
          some (if aim < 500 then 500 else if (most : Int) < aim then most else aim.toNat)) ∧
        ((t.state = .free ∨ t.state = .acquiring) → q.phase = φ) ∧
        ∀ reference, (t.state = .locked ∨ t.state = .holdover) → t.reference = some reference →
          let observed := (signedDiff reference start % (t.period : Int)).toNat
          (φ = none → q.phase = some observed) ∧
          ∀ f, φ = some f → r.life ≠ .pinned →
            q.phase = some (((f + (shortestStep t.period f observed).tdiv 4) % (t.period : Int)).toNat))) ∧
    (let misses := min 255 (r.misses + 1)
     (r.life = .tentative →
      r.missed p = if p.tentativeMisses ≤ misses then none else some { r with misses := misses }) ∧
     (r.life = .confirmed →
      r.missed p = if p.fadeMisses ≤ misses then
          (if p.retireMisses ≤ misses then none else some { r with misses := misses, life := .fading })
        else some { r with misses := misses }) ∧
     (r.life = .fading →
      r.missed p = if p.retireMisses ≤ misses then none else some { r with misses := misses }))

/-! ## Cadence Tracker -/

/-- A rise report in FREE that names a CADENCED record starts acquisition from it, with the state-change notice and
CADENCE_CHANGE; one that names no CADENCED record has no effect. In ACQUIRING a rise of another slot has no effect, and so
has a rise of the anchor within EDGE_TOL of the reference. With no candidate, or one outside the allowed range, which is
dropped, a rise at a distance that is an allowed period becomes the candidate with the count 1, and any other the
reference. With a candidate c, a rise within EDGE_TOL of the nearest multiple k·c, k from 1 to 8, refines it to the running
mean, rounded and clamped, raises the count and becomes the reference; at LOCK_COUNT the tracker enters LOCKED with that
period, with the notice and CADENCE_CHANGE. Any other raises the outlier count, and the third drops the candidate and
becomes the reference. The order of the handed work is the model's choice (log entry 5). -/
def Obligations.RiseStartsAcquisitionAndCandidate : Prop :=
  (∀ (s : State) (k : Slot) (rise : AirTime), s.resetN = true → s.resets = [] → s.tracker.state = .free →
      ((s.table[k]).any (·.isCadenced) = false →
        exec (.riseReport k rise) s = .next { s with handed := s.handed.erase (.riseReport k rise) }) ∧
      ((s.table[k]).any (·.isCadenced) = true →
        exec (.riseReport k rise) s = .next { s with
          tracker := { s.tracker with
            state := .acquiring, anchor := some k, anchorOffset := 0, reference := some rise, candidate := none
            consistent := 0, outliers := 0, anchorMisses := 0 }
          handed := s.handed.erase (.riseReport k rise) ++
            [.cadenceStateNotice, .attentionSetRequest .cadenceChange] })) ∧
  ∀ (s : State) (slot : Slot) (reference rise : AirTime), s.resetN = true → s.tracker.state = .acquiring →
    s.tracker.reference = some reference →
    let d := signedDiff reference rise
    let tol : Int := s.params.edgeTol
    let near := -tol ≤ d ∧ d ≤ tol
    let range : Nat × Nat := match s.params.mainsNominal with
      | .any => (15000, 22000)
      | .hz50 => (19400, 20600)
      | .hz60 => (16167, 17167)
    let allowed := fun (x : Int) => (range.1 : Int) ≤ x ∧ x ≤ range.2
    let became := fun (t : Tracker) =>
      exec (.riseReport slot rise) s = .next { s with tracker := t, handed := s.handed.erase (.riseReport slot rise) }
    let first := fun (t : Tracker) =>
      (near → became t) ∧
      (¬near → allowed d → became { t with
        candidate := some d.toNat, consistent := 1, outliers := 0, reference := some rise }) ∧
      (¬near → ¬allowed d → became { t with reference := some rise })
    (s.tracker.anchor ≠ some slot → became s.tracker) ∧
    (s.tracker.anchor = some slot → s.tracker.candidate = none → first s.tracker) ∧
    ∀ c, s.tracker.anchor = some slot → s.tracker.candidate = some c →
      (¬allowed c → first { s.tracker with candidate := none, consistent := 0, outliers := 0 }) ∧
      (allowed c → near → became s.tracker) ∧
      ∀ k : Nat, allowed c → ¬near → 1 ≤ k → k ≤ 8 →
        (∀ j : Nat, 1 ≤ j → j ≤ 8 → (d - k * c).natAbs < (d - j * c).natAbs ∨
          ((d - k * c).natAbs = (d - j * c).natAbs ∧ k ≤ j)) →
        let n := s.tracker.consistent
        let mean : Int := (2 * (c * n + (2 * d + k) / (2 * k)) + (n + 1)) / (2 * (n + 1))
        let refined := if mean < range.1 then range.1 else if (range.2 : Int) < mean then range.2 else mean.toNat
        (-tol ≤ d - k * c → d - k * c ≤ tol →
          (n + 1 < s.params.lockCount → became { s.tracker with
            candidate := some refined, consistent := n + 1, outliers := 0, reference := some rise }) ∧
          (s.params.lockCount ≤ n + 1 → s.resets = [] →
            exec (.riseReport slot rise) s = .next { s with
              tracker := { s.tracker with
                state := .locked, period := refined, reference := some rise, candidate := none, consistent := 0
                outliers := 0, anchorMisses := 0, anchorOffset := 0
                holdover := some (s.airTime + BitVec.ofNat 32 (s.params.holdoverLimit * 1000000)) }
              handed := s.handed.erase (.riseReport slot rise) ++
                [.cadenceStateNotice, .attentionSetRequest .cadenceChange] })) ∧
        (¬(-tol ≤ d - k * c ∧ d - k * c ≤ tol) →
          (s.tracker.outliers + 1 < 3 → became { s.tracker with outliers := s.tracker.outliers + 1 }) ∧
          (3 ≤ s.tracker.outliers + 1 → became { s.tracker with
            candidate := none, consistent := 0, outliers := 0, reference := some rise }))

/-- In LOCKED and HOLDOVER a rise of a slot that is not the anchor has no effect. A rise of the anchor in LOCKED whose error
lies within EDGE_TOL refines the lock: the reference moves to the predicted rise plus a quarter of the error, the period by a
sixteenth of it, clamped, the counts are cleared and the holdover timer restarts; in HOLDOVER the same rise returns the tracker
to LOCKED with a notice. Outside EDGE_TOL, HOLDOVER ignores it, and in LOCKED it raises the outlier count; the fourth outlier
returns the tracker to ACQUIRING with the period as its candidate at the count 1 and the rise as its reference, the anchor and
the period kept and the holdover timer stopped, every CADENCED record losing its phase with the notices of counting ones. That
the fourth outlier keeps the anchor offset, which R22 does not name, and that an offset at or above P is used as it stands are
the model's readings (log entries 14 and 19); the order of the handed work is its choice (log entry 5). -/
def Obligations.ConsistentRiseRefinesTheLock : Prop :=
  (∀ (s : State) (k : Slot) (rise : AirTime), s.resetN = true →
    (s.tracker.state = .locked ∨ s.tracker.state = .holdover) → s.tracker.anchor ≠ some k →
    exec (.riseReport k rise) s = .next { s with handed := s.handed.erase (.riseReport k rise) }) ∧
  ∀ (s : State) (k : Slot) (reference rise : AirTime), s.resetN = true → s.resets = [] →
    s.tracker.anchor = some k → s.tracker.reference = some reference →
    let e := shortestStep s.tracker.period 0
      (onCircle s.tracker.period (signedDiff (after reference s.tracker.anchorOffset) rise))
    let consistent := -(s.params.edgeTol : Int) ≤ e ∧ e ≤ s.params.edgeTol
    let rest := s.handed.erase (.riseReport k rise)
    let notified := rest ++ [.cadenceStateNotice, .attentionSetRequest .cadenceChange]
    let phased := fun (j : Slot) => (s.table[j]).any fun r => r.counting && r.phase.isSome
    let refined := { s.tracker with
      state := .locked
      reference := some (rise - BitVec.ofInt 32 e - BitVec.ofNat 32 s.tracker.anchorOffset + BitVec.ofInt 32 (e.tdiv 4))
      period := s.params.mainsNominal.clamp (s.tracker.period + e.tdiv 16), outliers := 0, anchorMisses := 0
      holdover := some (s.airTime + BitVec.ofNat 32 (s.params.holdoverLimit * 1000000)) }
    (s.tracker.state = .locked → consistent →
      exec (.riseReport k rise) s = .next { s with tracker := refined, handed := rest }) ∧
    (s.tracker.state = .locked → ¬consistent → s.tracker.outliers + 1 < 4 →
      exec (.riseReport k rise) s = .next { s with
        tracker := { s.tracker with outliers := s.tracker.outliers + 1 }, handed := rest }) ∧
    (s.tracker.state = .locked → ¬consistent → 4 ≤ s.tracker.outliers + 1 →
      ∃ t, exec (.riseReport k rise) s = .next t ∧
        t = { s with
          tracker := { s.tracker with
            state := .acquiring, candidate := some s.tracker.period, consistent := 1, outliers := 0
            reference := some rise, anchorMisses := 0, holdover := none }
          table := t.table, changed := t.changed
          handed := notified ++ ((List.finRange 32).filter phased).map .changeNotice } ∧
        (∀ j : Slot, t.table[j] = (s.table[j]).map fun r => { r with emission := r.emission.withoutPhase }) ∧
        ∀ j : Slot, t.changed.getLsbD j.val = (s.changed.getLsbD j.val || phased j)) ∧
    (s.tracker.state = .holdover → consistent →
      exec (.riseReport k rise) s = .next { s with tracker := refined, handed := notified }) ∧
    (s.tracker.state = .holdover → ¬consistent →
      exec (.riseReport k rise) s = .next { s with handed := rest })

/-- An anchor miss report in LOCKED raises the miss count, and the eighth enters HOLDOVER with the count 0 and a
notice, the prediction kept. A report that names another slot, or is taken in another state, has no effect. The order
of the handed work is the model's choice (log entry 5). -/
def Obligations.EighthMissEntersHoldover : Prop :=
  ∀ (s : State) (k : Slot), s.resetN = true → s.resets = [] →
    ((s.tracker.state ≠ .locked ∨ s.tracker.anchor ≠ some k) →
      exec (.anchorMissReport k) s = .next { s with handed := s.handed.erase (.anchorMissReport k) }) ∧
    (s.tracker.state = .locked → s.tracker.anchor = some k →
      (s.tracker.anchorMisses < 7 →
        exec (.anchorMissReport k) s = .next { s with
          tracker := { s.tracker with anchorMisses := s.tracker.anchorMisses + 1 }
          handed := s.handed.erase (.anchorMissReport k) }) ∧
      (s.tracker.anchorMisses = 7 →
        exec (.anchorMissReport k) s = .next { s with
          tracker := { s.tracker with state := .holdover, anchorMisses := 0 }
          handed := s.handed.erase (.anchorMissReport k) ++
            [.cadenceStateNotice, .attentionSetRequest .cadenceChange] }))

/-- At its deadline in LOCKED or HOLDOVER the holdover timer brings the tracker to FREE: every field but the period
takes its reset value, every CADENCED record loses its phase, each counting record that had one gives a notice and
enters the set, and the state change is notified. Before the deadline nothing happens. The order of the handed work is
the model's choice (log entry 5). That the timer acts only when due is a reading (log entry 10). -/
def Obligations.HoldoverExpiryFreesTheTracker : Prop :=
  ∀ (s : State) (d : AirTime), s.resetN = true → s.resets = [] →
    (s.tracker.state = .locked ∨ s.tracker.state = .holdover) → s.tracker.holdover = some d →
    (atOrAfter s.airTime d = false → exec .holdoverExpiry s = .next s) ∧
    (atOrAfter s.airTime d = true →
      ∃ t, exec .holdoverExpiry s = .next t ∧
        t = { s with
          tracker := { Tracker.reset with period := s.tracker.period }
          table := t.table, changed := t.changed, handed := t.handed } ∧
        (∀ (k : Slot), t.table[k] = (s.table[k]).map fun r => { r with emission := r.emission.withoutPhase }) ∧
        (∀ k : Slot, t.changed.getLsbD k.val =
          (s.changed.getLsbD k.val || (s.table[k]).any fun r => r.counting && r.phase.isSome)) ∧
        t.handed = s.handed ++ [.cadenceStateNotice, .attentionSetRequest .cadenceChange] ++
          ((List.finRange 32).filter fun k => (s.table[k]).any fun r => r.counting && r.phase.isSome).map
            .changeNotice)

/-! ## Control port and attention -/

/-- A transaction carries the pending response: SDO gives one bit for each SCK clock, the frame's bits with the most
significant bit of each byte first and 0 after them, and what is not clocked out is lost; it lasts the clocks of its command
frame, or more when the host processor gives more. Its command is then in execution: READY is low and the answer waits, and
completion makes it the pending response and raises READY. NOP answers DONE with an empty body. A frame that passes its check
and spells no command answers BAD_ARGUMENT, and one that fails its check leaves CHECK_FAILED pending at once. A transaction
begun while READY is low, in a command's execution or a reset, carries NOT_READY and changes nothing else. A row of the
table that names a host command is a transaction that waited for READY: it finds the command before it completed, and is
turned away only in a reset (log entry 17). That NOT_READY changes nothing with READY high (log entry 10), and that with no
command waiting and nothing ready a command completes or a microsecond passes (log entries 2 and 3), are its choices. -/
def Obligations.TransactionsCarryThePendingResponse : Prop :=
  (∀ (r : Response) (clocks : Nat), (r.shiftOut clocks).length = clocks ∧
      r.frame = withCheck (r.status.byte :: natByte r.body.length :: r.body) ∧
      (∀ i b : Nat, i < r.frame.length → b < 8 → 8 * i + b < clocks →
        (r.shiftOut clocks)[8 * i + b]? = (r.frame[i]?).map (·.getMsbD b)) ∧
      ∀ i : Nat, 8 * r.frame.length ≤ i → i < clocks → (r.shiftOut clocks)[i]? = some false) ∧
  (∀ (s : State) (c : Instr) (x : Response) (code : Byte) (body : List Byte), c.codeAndBody = some (code, body) →
      s.answering c x = { s with
        sdo := s.response.shiftOut (max (8 * (body.length + 3)) s.clocks), ready := false, answer := some x } ∧
      s.completed x = { s with response := x, answer := none, ready := true }) ∧
  ∀ s : State,
    let turnedAway := fun (clocks : Nat) =>
      Host.Outcome.next (φ := Fault) (ρ := Refusal) { s with sdo := (Response.mk .notReady []).shiftOut clocks }
    (s.ready = true →
      exec .nop s = .next (s.answering .nop ⟨.done, []⟩) ∧
      (∀ code body, exec (.unknownCommand code body) s =
        .next (s.answering (.unknownCommand code body) ⟨.badArgument, []⟩)) ∧
      (∀ sdi, exec (.checkFailed sdi) s =
        .next { s with sdo := s.response.shiftOut sdi.length, response := ⟨.checkFailed, []⟩ }) ∧
      exec .notReady s = .next s ∧
      ∀ sdi, s.transaction sdi = exec (decodeTransaction sdi) { s with clocks := sdi.length }) ∧
    (s.ready = false →
      exec .notReady s = turnedAway s.clocks ∧ (∀ sdi, s.transaction sdi = turnedAway sdi.length) ∧
      (s.answer = none →
        (∀ (c : Instr) (code : Byte) (body : List Byte), c.codeAndBody = some (code, body) →
          exec c s = turnedAway (max (8 * (body.length + 3)) s.clocks)) ∧
        ∀ sdi, exec (.checkFailed sdi) s = turnedAway sdi.length) ∧
      ∀ x, s.answer = some x →
        (∀ c : Instr, (encodeTransaction c).isSome = true → exec c s = exec c (s.completed x)) ∧
        State.happen .completion s = .next (s.completed x) ∧
        (s.pending = [] → s.resetN = true → s.readyEvents = [] →
          step s = .next ({ s with choices := s.choices + 1 }.completed x) ∨
          step s = .next { s with choices := s.choices + 1 }.passMicrosecond))

/-- The commands that read: with READY high each is answered and changes nothing but the port, for every operand. STATUS,
SCAN, READ ATTENTION, GET PARAMETER, READ PLANS, EVAL, READ LANE, both READs and FIND answer DONE with the fields their rules
list, each clear fraction computed at the command with the lane's edge guard, where their operands name what is there; EVAL
takes a position or an ad-hoc plan of the lane's band. READ ATTENTION gives the unmasked pending condition of smallest number
with the lowest lane whose flag is set. A lane outside 0 to 2, a slot outside its table, a position outside 1 to 6, an invalid
plan or one of the other band, and a parameter's number or qualifier outside its list are BAD_ARGUMENT; an EMPTY or FREE slot,
a position above the depth and an address of no station are NOT_FOUND; EVAL on an empty stack is EMPTY_STACK. The bodies of
READ LANE and of the station READ, the order of two grants in READ LANE and the bits that the formats place nothing in are the
model's layouts (log entry 8, DEDUCED). -/
def Obligations.ReadsChangeNothing : Prop :=
  (∀ n : Nat, natHalf n = [natByte (n / 256), natByte n]) ∧
  (∀ x : BitVec 32, wordBytes x =
    [natByte (x.toNat / 2 ^ 24), natByte (x.toNat / 2 ^ 16), natByte (x.toNat / 2 ^ 8), natByte x.toNat]) ∧
  (∀ a : Address, addressBytes a =
    [natByte (a.toNat / 2 ^ 40), natByte (a.toNat / 2 ^ 32), natByte (a.toNat / 2 ^ 24), natByte (a.toNat / 2 ^ 16),
      natByte (a.toNat / 2 ^ 8), natByte a.toNat]) ∧
  ([Life.tentative, .confirmed, .fading, .pinned].map (·.byte) = [0, 1, 2, 3] ∧
    [Origin.learned, .placed].map (·.byte) = [0, 1] ∧ [Band.l, .h].map (·.byte) = [0, 1] ∧
    [BandSet.onlyL, .onlyH, .both].map (·.byte) = [1, 2, 3] ∧ [Width.w20, .w40].map (·.byte) = [20, 40] ∧
    [Lane.l0, .l1, .l2].map (·.byte) = [0, 1, 2] ∧ [CadenceState.free, .acquiring, .locked, .holdover].map (·.byte) = [0, 1, 2, 3] ∧
    [PlanState.disabled, .settled, .draining, .switching, .unsynced, .halted].map (·.byte) = [0, 1, 2, 3, 4, 5] ∧
    [SwitchKind.fallback, .push, .pop, .restore].map (·.byte) = [0, 1, 2, 3] ∧ [Tag.valid, .stale].map (·.byte) = [0, 1] ∧
    [Condition.normal, .strained].map (·.byte) = [0, 1] ∧ [Mode.run, .bypass].map (·.byte) = [0, 1] ∧
    [StartCause.power, .soft].map (·.byte) = [0, 1] ∧
    [InKind.query, .outcome, .survey, .switchDone, .switchFailed, .hello].map (·.byte) = [1, 2, 3, 4, 5, 6] ∧
    [Comparison.better, .equal, .worse, .unordered].map (·.byte) = [0, 1, 2, 3] ∧
    [ClosingCode.ok, .abandoned, .lost, .expired, .laneReset, .partReset].map (·.byte) =
      [0x02, 0x01, 0xFF, 0xFE, 0xFD, 0xFC] ∧
    ∀ f : GoFlags, f.byte.getLsbD 0 = f.stranger ∧ f.byte.getLsbD 1 = f.strained ∧ f.byte.getLsbD 2 = f.narrowed ∧
      f.byte.getLsbD 3 = f.holdover ∧ f.byte.getLsbD 4 = f.unpredicted ∧ f.byte.getLsbD 5 = f.bypass ∧
      f.byte.getLsbD 6 = false ∧ f.byte.getLsbD 7 = false) ∧
  ∀ s : State, s.ready = true →
    let answered := fun (c : Instr) (body : List Byte) => exec c s = .next (s.answering c ⟨.done, body⟩)
    let refusedWith := fun (c : Instr) (x : Status) => exec c s = .next (s.answering c ⟨x, []⟩)
    let fraction := fun (l : Lane) (p : PlanSpan) => s.clearFraction p.span (s.grants.get l).edgeGuard
    let shown := fun (q : Option Nat) =>
      match q with
      | some n => natByte n
      | none => 0xFF
    let bit := fun (b : Bool) => if b then (1 : Byte) else 0
    (∀ c : Instr, (c = .status ∨ c = .scan ∨ c = .readAttention ∨ (∃ n q, c = .getParameter n q) ∨
        (∃ l, c = .readPlans l) ∨ (∃ l x, c = .eval l x) ∨ (∃ l, c = .readLane l) ∨ (∃ k, c = .interfererRead k) ∨
        (∃ k, c = .stationRead k) ∨ ∃ a, c = .find a) → ∃ x, exec c s = .next (s.answering c x)) ∧
    answered .status ([s.startCause.byte, s.mode.byte, s.tracker.state.byte] ++
      natHalf s.tracker.period ++ [natByte (s.table.toList.filter (·.isSome)).length]) ∧
    answered .scan ([shown (s.tracker.anchor.map (·.val)), natByte (s.table.toList.filter (·.isSome)).length] ++
      s.table.toList.flatMap fun e =>
        match e with
        | none => [0xFF, 0xFF]
        | some r => [r.life.byte + 4 * r.origin.byte, r.emission.kindByte + 4 * r.span.band.byte]) ∧
    (∃ body, answered .readAttention body ∧ body.length = 10 ∧
      (let flagged := fun (n : Nat) => (∃ c l, LaneCondition.priority c = n ∧ s.flags.get (.lane c l) = true) ∨
          (n = 7 ∧ s.flags.get .tableFull = true) ∨ (n = 8 ∧ s.flags.get .cadenceChange = true) ∨
          (n = 9 ∧ s.changed ≠ 0) ∨ (n = 10 ∧ s.advised ≠ 0)
       let named := fun (n : Nat) => flagged n ∧ s.params.attentionMask[n - 1]? = some false
       ((∀ n, ¬named n) → body[0]? = some 0 ∧ body[1]? = some 0xFF) ∧
       ∀ n, named n → (∀ m, named m → n ≤ m) → body[0]? = some (natByte n) ∧ (7 ≤ n → body[1]? = some 0xFF) ∧
        ∀ (c : LaneCondition) (l : Lane), c.priority = n → s.flags.get (.lane c l) = true →
          (∀ m, s.flags.get (.lane c m) = true → l.toNat ≤ m.toNat) → body[1]? = some l.byte) ∧
      (∀ (c : LaneCondition) (l : Lane),
        (body[1 + c.priority]?).map (·.getLsbD l.toNat) = some (s.flags.get (.lane c l))) ∧
      (body[8]?).map (·.getLsbD 0) = some (s.flags.get .tableFull) ∧
      (body[8]?).map (·.getLsbD 1) = some (s.flags.get .cadenceChange) ∧
      (body[8]?).map (·.getLsbD 2) = some (decide (s.changed ≠ 0)) ∧
      (body[8]?).map (·.getLsbD 3) = some (decide (s.advised ≠ 0)) ∧
      ∀ l : Lane, ∃ any, (body[9]?).map (·.getLsbD l.toNat) = some any ∧
        (any = true ↔ ∃ c, s.flags.get (.lane c l) = true)) ∧
    (answered (.getParameter 4 0) (wordBytes (BitVec.ofNat 32 s.params.holdoverLimit)) ∧
      answered (.getParameter 1 0) (wordBytes (match s.params.mainsNominal with
        | .any => 0
        | .hz50 => 50
        | .hz60 => 60)) ∧
      answered (.getParameter 28 0) [0, 0, 0, bit s.params.overflowMask] ∧
      answered (.getParameter 29 0) [0, 0, 0, bit s.params.underflowMask] ∧
      (∀ l : Lane, answered (.getParameter 30 l.byte) [0, 0, 0, bit (s.params.holdoff.get l)]) ∧
      (∀ i : Fin 10, answered (.getParameter 31 (natByte (i.val + 1))) [0, 0, 0, bit s.params.attentionMask[i]]) ∧
      ∀ n q : Byte, (n.toNat = 0 ∨ 32 ≤ n.toNat ∨ (n.toNat ≤ 29 ∧ q ≠ 0) ∨ (n.toNat = 30 ∧ 3 ≤ q.toNat) ∨
        (n.toNat = 31 ∧ (q.toNat = 0 ∨ 11 ≤ q.toNat))) → refusedWith (.getParameter n q) .badArgument) ∧
    (∀ (n : Byte) (x : EvalTarget), 3 ≤ n.toNat → refusedWith (.readPlans n) .badArgument ∧
      refusedWith (.readLane n) .badArgument ∧ refusedWith (.eval n x) .badArgument) ∧
    (∀ l : Lane,
      let p := s.plans.get l
      let g := s.grants.get l
      let k := s.links.get l
      answered (.readPlans l.byte) ([p.band.byte, p.state.byte, natByte p.attempts] ++ natHalf g.edgeGuard ++
        [bit p.settle.isSome] ++
        (match p.switch with
          | some w => [w.kind.byte, natByte w.position]
          | none => [0xFF, 0xFF]) ++
        [natByte p.stack.length] ++ (p.stack.zipIdx 1).flatMap fun e =>
          [natByte e.2, natByte e.1.plan.primary, e.1.plan.width.byte, natByte e.1.tolerance, e.1.tag.byte,
            shown (fraction l e.1.plan)]) ∧
      answered (.readLane l.byte) ([p.state.byte, p.band.byte, natByte p.stack.length] ++
        (match p.stack.getLast? with
          | some e => [natByte e.plan.primary, e.plan.width.byte]
          | none => [0xFF, 0xFF]) ++
        [natByte g.outstanding.length] ++
        (g.outstanding.flatMap fun x =>
          [x.id] ++ wordBytes x.start ++ natHalf x.cap ++ [natByte x.span.primary, x.span.width.byte] ++
            (match x.cls with
              | .primary a => 0 :: addressBytes a
              | .stranger => [1, 0, 0, 0, 0, 0, 0]
              | .group => [2, 0, 0, 0, 0, 0, 0]) ++
            natHalf x.guard ++ [x.flags.byte] ++ wordBytes x.expiry) ++
        natHalf g.edgeGuard ++ [natByte g.okRun] ++
        (match g.lastClosure with
          | none => [0]
          | some ⟨id, code, some used⟩ => [1, id, code.byte] ++ natHalf used
          | some ⟨id, code, none⟩ => [1, id, code.byte, 0xFF, 0xFF]) ++
        [match k.holder with
          | some m => m.kind.byte
          | none => 0,
          natByte k.failures, bit k.latch, bit (s.params.holdoff.get l)]) ∧
      (let compared := fun (c : Instr) (plan top : PlanSpan) => answered c
        [(compareFractions (fraction l plan) (fraction l top)).byte, shown (fraction l plan), shown (fraction l top)]
       (∀ n : Byte, (n.toNat = 0 ∨ 7 ≤ n.toNat) → refusedWith (.eval l.byte (.position n)) .badArgument) ∧
       (∀ n : Byte, 1 ≤ n.toNat → n.toNat ≤ 6 → p.stack = [] → refusedWith (.eval l.byte (.position n)) .emptyStack) ∧
       (∀ n : Byte, n.toNat ≤ 6 → p.stack ≠ [] → p.stack.length < n.toNat →
        refusedWith (.eval l.byte (.position n)) .notFound) ∧
       (∀ (n : Byte) (e top : PlanEntry), 1 ≤ n.toNat → n.toNat ≤ 6 → p.stack[n.toNat - 1]? = some e →
        p.stack.getLast? = some top → compared (.eval l.byte (.position n)) e.plan top.plan) ∧
       (∀ raw : RawPlan, (∀ c : PlanSpan, c.valid = true → raw ≠ ⟨natByte c.primary, c.width.byte⟩) →
        refusedWith (.eval l.byte (.adHoc raw)) .badArgument) ∧
       ∀ c : PlanSpan, c.valid = true →
        let eval := Instr.eval l.byte (.adHoc ⟨natByte c.primary, c.width.byte⟩)
        (c.band ≠ p.band → refusedWith eval .badArgument) ∧
        (c.band = p.band → p.stack = [] → refusedWith eval .emptyStack) ∧
        ∀ top, c.band = p.band → p.stack.getLast? = some top → compared eval c top.plan)) ∧
    (∀ n : Byte, (32 ≤ n.toNat → refusedWith (.interfererRead n) .badArgument) ∧
      ∀ k : Slot, n.toNat = k.val →
        (s.table[k] = none → refusedWith (.interfererRead n) .notFound) ∧
        ∀ r, s.table[k] = some r →
          answered (.interfererRead n) ([n, r.emission.kindByte, r.span.band.byte, natByte r.span.first,
            natByte r.span.count, natByte r.level] ++
            (match r.emission with
              | .cadenced on none => [0xFF] ++ natHalf on ++ [0xFF, 0xFF]
              | .cadenced on (some φ) => [0xFF] ++ natHalf on ++ natHalf φ
              | .steady d => [natByte d, 0xFF, 0xFF, 0xFF, 0xFF]
              | .sporadic d => [natByte d, 0xFF, 0xFF, 0xFF, 0xFF]) ++
            [natByte r.confidence, natByte r.misses, r.life.byte, r.origin.byte,
              bit (decide (s.tracker.anchor = some k))])) ∧
    (∀ n : Byte, (64 ≤ n.toNat → refusedWith (.stationRead n) .badArgument) ∧
      (n.toNat = 0 → answered (.stationRead n) ([0, 0, 0, 3, 20, 0xFF] ++ natHalf s.params.strangerFloor ++
        [0, 0, 0, 0xFF])) ∧
      ∀ k : StationSlot, n.toNat = k.val + 1 →
        (s.stations[k] = none → refusedWith (.stationRead n) .notFound) ∧
        ∀ r, s.stations[k] = some r →
          answered (.stationRead n) ([n] ++ addressBytes r.primary ++
            (match r.aliasAddr with
              | some a => 1 :: addressBytes a
              | none => [0]) ++
            [r.bands.byte, r.width.byte, r.home.byte] ++ natHalf r.floor ++
            [natByte r.lossStreak, natByte r.okRun, r.condition.byte,
              match r.advice with
              | some l => l.byte
              | none => 0xFF]) ∧
          (s.StationsOk → answered (.find r.primary) [n, 0] ∧
            ∀ a, r.aliasAddr = some a → answered (.find a) [n, 1])) ∧
    ∀ a : Address, (a.isGroup = true → answered (.find a) [0, 2]) ∧
      (a.isGroup = false →
        (∀ (k : StationSlot) (r : Station), s.stations[k] = some r → r.primary ≠ a ∧ r.aliasAddr ≠ some a) →
        refusedWith (.find a) .notFound)

/-- SET PARAMETER stores a value that lies in its parameter's range and keeps the cross-conditions, and refuses any other
with BAD_ARGUMENT, as it does a qualifier the parameter does not take and a number outside 1 to 31; GET PARAMETER returns
the value. A new GUARD_FLOOR or GUARD_CEILING brings each lane's edge guard into the range with a guard-change notice of
each that moved. SET MODE stores RUN or BYPASS, hands a mode notice exactly on a change from BYPASS to RUN, and refuses any
other value. The order of the handed work is the model's choice (log entry 5). -/
def Obligations.SetParameterAndSetMode : Prop :=
  (∀ (p : Params) (n : Numeric) (v : Nat),
      (∀ m, (p.setNumeric n v).numeric m = if m = n then v else p.numeric m) ∧
      (p.setNumeric n v).mainsNominal = p.mainsNominal ∧ (p.setNumeric n v).overflowMask = p.overflowMask ∧
      (p.setNumeric n v).underflowMask = p.underflowMask ∧ (p.setNumeric n v).holdoff = p.holdoff ∧
      (p.setNumeric n v).attentionMask = p.attentionMask) ∧
  (∀ (s : State) (q : Byte) (v : BitVec 32), s.ready = true → s.resets = [] →
    let set := fun (number : Nat) (q : Byte) => Instr.setParameter (natByte number) q v
    let badArgument := fun (c : Instr) => exec c s = .next (s.answering c ⟨.badArgument, []⟩)
    let stored := fun (c : Instr) (p : Params) => exec c s = .next { s.answering c ⟨.done, []⟩ with params := p }
    let rows : List (Numeric × Nat × Nat × Nat) :=
      [(.lockCount, 2, 2, 8), (.edgeTol, 3, 100, 2000), (.holdoverLimit, 4, 1, 60), (.detectLevel, 5, 3, 40),
        (.steadyFloor, 6, 4, 48), (.matchTol, 7, 200, 3000), (.coverageLimit, 8, 4, 254), (.confirmCount, 9, 2, 15),
        (.fadeMisses, 10, 2, 64), (.retireMisses, 11, 4, 255), (.tentativeMisses, 12, 1, 16), (.grantLead, 13, 20, 500),
        (.guardFloor, 14, 0, 2000), (.guardCeiling, 15, 100, 2000), (.guardInitial, 16, 0, 2000),
        (.guardStep, 17, 10, 200), (.guardRelaxRun, 18, 8, 255), (.expiryMargin, 19, 500, 20000),
        (.strangerFloor, 20, 50, 2000), (.strainLosses, 21, 2, 15), (.recoverRun, 22, 2, 15), (.steerMargin, 23, 1, 32),
        (.settleTime, 24, 0, 30), (.switchCountdown, 25, 0, 15), (.switchTimeout, 26, 100, 10000),
        (.switchRetries, 27, 0, 7)]
    (∀ n number least most, (n, number, least, most) ∈ rows →
      let p := s.params.setNumeric n v.toNat
      let fits := least ≤ v.toNat ∧ v.toNat ≤ most ∧ p.fadeMisses < p.retireMisses ∧ p.guardFloor ≤ p.guardInitial ∧
        p.guardInitial ≤ p.guardCeiling
      let guard := fun (l : Lane) => min (max (s.grants.get l).edgeGuard p.guardFloor) p.guardCeiling
      (q ≠ 0 → badArgument (set number q)) ∧ (¬fits → badArgument (set number 0)) ∧
      (fits → n ≠ .guardFloor → n ≠ .guardCeiling → stored (set number 0) p) ∧
      (fits → (n = .guardFloor ∨ n = .guardCeiling) →
        ∃ t, exec (set number 0) s = .next t ∧
          t = { s.answering (set number 0) ⟨.done, []⟩ with params := p, grants := t.grants, handed := t.handed } ∧
          (∀ l, t.grants.get l = { s.grants.get l with edgeGuard := guard l }) ∧
          t.handed = s.handed ++
            (Lane.all.filter fun l => decide (guard l ≠ (s.grants.get l).edgeGuard)).map .guardChangeNotice) ∧
      exec (.getParameter (natByte number) 0) s = .next (s.answering (.getParameter (natByte number) 0)
        ⟨.done, wordBytes (BitVec.ofNat 32 (s.params.numeric n))⟩)) ∧
    (q ≠ 0 → badArgument (set 1 q) ∧ badArgument (set 28 q) ∧ badArgument (set 29 q)) ∧
    (3 ≤ q.toNat → badArgument (set 30 q)) ∧ ((q.toNat = 0 ∨ 11 ≤ q.toNat) → badArgument (set 31 q)) ∧
    (∀ number : Byte, (number.toNat = 0 ∨ 32 ≤ number.toNat) → badArgument (.setParameter number q v)) ∧
    (v.toNat = 0 → stored (set 1 0) { s.params with mainsNominal := .any }) ∧
    (v.toNat = 50 → stored (set 1 0) { s.params with mainsNominal := .hz50 }) ∧
    (v.toNat = 60 → stored (set 1 0) { s.params with mainsNominal := .hz60 }) ∧
    (v.toNat ≠ 0 → v.toNat ≠ 50 → v.toNat ≠ 60 → badArgument (set 1 0)) ∧
    (v.toNat ≤ 1 →
      stored (set 28 0) { s.params with overflowMask := decide (v.toNat = 1) } ∧
      stored (set 29 0) { s.params with underflowMask := decide (v.toNat = 1) } ∧
      (∀ l : Lane, stored (set 30 l.byte) { s.params with holdoff := s.params.holdoff.set l (decide (v.toNat = 1)) }) ∧
      ∀ i : Fin 10, stored (set 31 (natByte (i.val + 1)))
        { s.params with attentionMask := s.params.attentionMask.set i (decide (v.toNat = 1)) }) ∧
    (2 ≤ v.toNat → badArgument (set 28 0) ∧ badArgument (set 29 0) ∧ (∀ l : Lane, badArgument (set 30 l.byte)) ∧
      ∀ i : Fin 10, badArgument (set 31 (natByte (i.val + 1))))) ∧
  ∀ (s : State) (m : Byte), s.ready = true → s.resets = [] →
    (m.toNat = 0 → exec (.setMode m) s = .next { s.answering (.setMode m) ⟨.done, []⟩ with
      mode := .run, handed := s.handed ++ if s.mode = .bypass then [.modeNotice] else [] }) ∧
    (m.toNat = 1 → exec (.setMode m) s = .next { s.answering (.setMode m) ⟨.done, []⟩ with mode := .bypass }) ∧
    (2 ≤ m.toNat → exec (.setMode m) s = .next (s.answering (.setMode m) ⟨.badArgument, []⟩))

/-- A set request sets its flag and no other. CLEAR ATTENTION clears exactly the flags it names, whether set or not,
and is refused whole with BAD_ARGUMENT when a bit names a lane out of range or a derived or unknown condition. TAKE
CHANGES returns both sets as bitmaps and empties them. ATTN is driven low exactly while some condition is pending and
unmasked: a flag that is set, or a set that is not empty. That CLEAR ATTENTION may name no flag, and that an answer without
items has an empty body, are the model's readings (log entry 8). -/
def Obligations.AttentionFlagsAndSets : Prop :=
  ∀ s : State,
    (∀ f : Flag, s.resetN = true →
      ∃ t, exec (.attentionSetRequest f) s = .next t ∧
        t = { s with handed := s.handed.erase (.attentionSetRequest f), flags := t.flags } ∧
        ∀ g, t.flags.get g = (s.flags.get g || decide (g = f))) ∧
    (s.ready = true →
      (∀ b : FlagBytes,
        let c : Instr := .clearAttention b
        let named := fun (g : Flag) =>
          match g with
          | .lane c l => (b.laneByte c).getLsbD l.toNat
          | .tableFull => b.part.getLsbD 0
          | .cadenceChange => b.part.getLsbD 1
        let bad := (∃ c, 8 ≤ (b.laneByte c).toNat) ∨ 4 ≤ b.part.toNat
        (bad → exec c s = .next (s.answering c ⟨.badArgument, []⟩)) ∧
        (¬bad → ∃ t, exec c s = .next t ∧ t = { s.answering c ⟨.done, []⟩ with flags := t.flags } ∧
          ∀ g, t.flags.get g = (s.flags.get g && !named g))) ∧
      ∃ body, exec .takeChanges s = .next { s.answering .takeChanges ⟨.done, body⟩ with changed := 0, advised := 0 } ∧
        body.length = 12 ∧
        (∀ i : Fin 32, (body[i.val / 8]?).map (·.getLsbD (i.val % 8)) = some (s.changed.getLsbD i.val)) ∧
        ∀ i : Fin 64, (body[4 + i.val / 8]?).map (·.getLsbD (i.val % 8)) = some (s.advised.getLsbD i.val)) ∧
    (s.attnLow = true ↔
      (∃ c l, s.flags.get (.lane c l) = true ∧ s.params.attentionMask[c.priority - 1]? = some false) ∨
      (s.flags.get .tableFull = true ∧ s.params.attentionMask[6] = false) ∨
      (s.flags.get .cadenceChange = true ∧ s.params.attentionMask[7] = false) ∨
      (s.changed ≠ 0 ∧ s.params.attentionMask[8] = false) ∨ (s.advised ≠ 0 ∧ s.params.attentionMask[9] = false))

/-! ## Spans and circles -/

/-- Two spans overlap exactly when they share a slice, and their overlap amount is the number of slices they share: for
spans of one slice or more, the lesser last slice minus the greater first slice plus one when that is positive, and 0
otherwise. The length of a union of circular intervals is the number of points of the circle that some interval covers. -/
def Obligations.OverlapAndUnionCountPoints : Prop :=
  (∀ a b : Span,
    a.overlap b = ((List.range (a.first + a.count + b.first + b.count)).filter fun i =>
      decide (a.first ≤ i ∧ i < a.first + a.count ∧ b.first ≤ i ∧ i < b.first + b.count)).length ∧
    (1 ≤ a.count → 1 ≤ b.count →
      let shared : Int := min ((a.first : Int) + a.count - 1) (b.first + b.count - 1) - max (a.first : Int) b.first + 1
      (a.overlap b : Int) = if 0 < shared then shared else 0) ∧
    (a.overlaps b = true ↔
      ∃ i, a.first ≤ i ∧ i < a.first + a.count ∧ b.first ≤ i ∧ i < b.first + b.count)) ∧
  ∀ (p : Nat) (arcs : List Arc), 0 < p →
    unionLength p arcs = ((List.range p).filter fun x => arcs.any fun c => c.covers p x).length

/-- A clear fraction is UNKNOWN exactly when some slice of the span has a coverage age above COVERAGE_LIMIT. While the
tracker is not predicting, a known one is 64 less the capped sum of what the counting records that overlap the span
contribute. While it is predicting with period P, it is (P - U) times (64 - d), divided by P and rounded down: U is the
number of points of the circle that lie in the guarded on-interval of some counting CADENCED record that has a phase and
overlaps the span, and d the capped sum of what the other counting records that overlap it contribute. Two are compared
by Table 6-5: UNORDERED with an UNKNOWN, and otherwise BETTER, EQUAL or WORSE as the candidate's is greater, equal or
less. -/
def Obligations.ClearFractionsKnownAndCompared : Prop :=
  (∀ (s : State) (c : Span) (g : Nat), c.valid = true →
    (s.clearFraction c g = none ↔
      ∃ i : Fin 48, c.first ≤ i.val ∧ i.val < c.first + c.count ∧ s.params.coverageLimit < s.coverage[i]) ∧
    (s.tracker.Ok → (s.tracker.state = .free ∨ s.tracker.state = .acquiring) → ∀ q, s.clearFraction c g = some q →
      q = 64 - min 64 (((List.finRange 32).filterMap fun k => s.table[k]).map fun r =>
        if r.counting && r.span.overlaps c then
          match r.emission with
          | .cadenced o _ => (64 * min s.tracker.period (o + 2 * g) + s.tracker.period - 1) / s.tracker.period
          | .steady d => d
          | .sporadic d => d
        else 0).sum) ∧
    (s.tracker.Ok → (s.tracker.state = .locked ∨ s.tracker.state = .holdover) → ∀ q, s.clearFraction c g = some q →
      let blocks := fun (x : Nat) (r : Interferer) => r.counting && r.span.overlaps c &&
        match r.emission with
        | .cadenced o (some φ) => decide (((x : Int) - ((φ : Int) - g)) % s.tracker.period < o + 2 * g)
        | _ => false
      let u := ((List.range s.tracker.period).filter fun x =>
        (List.finRange 32).any fun k => (s.table[k]).any (blocks x)).length
      let d := min 64 (((List.finRange 32).filterMap fun k => s.table[k]).map fun r =>
        if r.counting && r.span.overlaps c then
          match r.emission with
          | .cadenced _ (some _) => 0
          | .cadenced o none => (64 * min s.tracker.period (o + 2 * g) + s.tracker.period - 1) / s.tracker.period
          | .steady d => d
          | .sporadic d => d
        else 0).sum
      q = (s.tracker.period - u) * (64 - d) / s.tracker.period)) ∧
  (∀ q, compareFractions none q = .unordered) ∧ (∀ q, compareFractions q none = .unordered) ∧
  ∀ a b, (b < a → compareFractions (some a) (some b) = .better) ∧
    (a = b → compareFractions (some a) (some b) = .equal) ∧ (a < b → compareFractions (some a) (some b) = .worse)
end

