-- ==== Sys2Proof/Laws/Bytes.lean ====
section
/-! SUPPORT. Multi-byte fields written and read back (R180), the check byte of what was written (R155), and the bytes that
name a lane, a slot or a plan span. -/

namespace Sys2Proof

theorem half_extract (x : Half) : half (x.extractLsb' 8 8) (x.extractLsb' 0 8) = x := by
  unfold half
  ext i hi
  simp only [BitVec.getElem_append, BitVec.getElem_extractLsb']
  split <;> rw [← BitVec.getLsbD_eq_getElem] <;> congr 1 <;> omega

theorem word_extract (x : BitVec 32) :
    word (x.extractLsb' 24 8) (x.extractLsb' 16 8) (x.extractLsb' 8 8) (x.extractLsb' 0 8) = x := by
  unfold word
  ext i hi
  simp only [BitVec.getElem_append, BitVec.getElem_extractLsb']
  split <;> split <;> rw [← BitVec.getLsbD_eq_getElem] <;> congr 1 <;> omega

theorem address_extract (x : Address) :
    address (x.extractLsb' 40 8) (x.extractLsb' 32 8) (x.extractLsb' 24 8) (x.extractLsb' 16 8) (x.extractLsb' 8 8)
      (x.extractLsb' 0 8) = x := by
  unfold address
  ext i hi
  simp only [BitVec.getElem_append, BitVec.getElem_extractLsb']
  split <;> split <;> (try split) <;> rw [← BitVec.getLsbD_eq_getElem] <;> congr 1 <;> omega

theorem halfBytes_length (x : Half) : (halfBytes x).length = 2 := rfl

theorem wordBytes_length (x : BitVec 32) : (wordBytes x).length = 4 := rfl

theorem addressBytes_length (x : Address) : (addressBytes x).length = 6 := rfl

theorem natByte_toNat {n : Nat} (h : n ≤ 255) : (natByte n).toNat = n := by
  simp [natByte, BitVec.toNat_ofNat]; omega

/-- A message or frame of a body that fits its length byte passes its check once its check byte is appended. -/
theorem passesCheck_withCheck (k : Byte) (body : List Byte) (h : body.length ≤ 255) :
    passesCheck (withCheck (k :: natByte body.length :: body)) = true := by
  have e : k :: natByte body.length :: body ++ [checkByte (k :: natByte body.length :: body)] =
      (k :: natByte body.length :: body) ++ [checkByte (k :: natByte body.length :: body)] := rfl
  unfold passesCheck
  rw [withCheck, List.dropLast_concat, List.getLast?_concat]
  simp [isWhole, natByte_toNat h]

/-! ## Bits on SDI and SDO (R167) -/

theorem bitsOfBytes_nil : bitsOfBytes [] = [] := rfl

theorem bitsOfBytes_cons (b : Byte) (bytes : List Byte) : bitsOfBytes (b :: bytes) = bitsOfByte b ++ bitsOfBytes bytes :=
  rfl

theorem bitsOfBytes_length (bytes : List Byte) : (bitsOfBytes bytes).length = 8 * bytes.length := by
  induction bytes with
  | nil => rfl
  | cons b bytes ih => rw [bitsOfBytes_cons, List.length_append, ih, List.length_cons]; simp [bitsOfByte]; omega

/-- The bits of a byte, most significant first, spell the byte. -/
theorem ofBoolListBE_bitsOfByte (b : Byte) : BitVec.ofBoolListBE (bitsOfByte b) = b := by
  unfold bitsOfByte
  ext i hi
  have h : i = 0 ∨ i = 1 ∨ i = 2 ∨ i = 3 ∨ i = 4 ∨ i = 5 ∨ i = 6 ∨ i = 7 := by simp at hi; omega
  rcases h with rfl | rfl | rfl | rfl | rfl | rfl | rfl | rfl <;>
    simp [BitVec.ofBoolListBE, BitVec.getElem_cons, BitVec.getLsbD_eq_getElem]

/-- Bytes sent most significant bit first are read back, with whatever bits follow them. -/
theorem bytesOfBits_bitsOfBytes (bytes : List Byte) (more : List Bool) :
    bytesOfBits (bitsOfBytes bytes ++ more) = bytes ++ bytesOfBits more := by
  induction bytes with
  | nil => rfl
  | cons b bytes ih =>
    rw [bitsOfBytes_cons, List.append_assoc]
    have e : bytesOfBits (bitsOfByte b ++ (bitsOfBytes bytes ++ more)) =
        BitVec.ofBoolListBE (bitsOfByte b) :: bytesOfBits (bitsOfBytes bytes ++ more) := rfl
    rw [e, ih, ofBoolListBE_bitsOfByte, List.cons_append]
    rfl

/-! ## Bytes that name a lane, a slot or a plan span -/

@[simp] theorem Lane.ofByte?_byte (l : Lane) : Lane.ofByte? l.byte = some l := by cases l <;> decide

theorem Lane.ofByte?_of_outside {n : Byte} (h : 3 ≤ n.toNat) : Lane.ofByte? n = none := by
  revert h; revert n; decide +kernel

theorem Slot.ofByte?_of_eq {n : Byte} {k : Slot} (h : n.toNat = k.val) : Slot.ofByte? n = some k := by
  unfold Slot.ofByte?
  rw [dif_pos (by omega)]
  exact congrArg some (Fin.ext h)

theorem Slot.ofByte?_of_outside {n : Byte} (h : 32 ≤ n.toNat) : Slot.ofByte? n = none := by
  unfold Slot.ofByte?
  rw [dif_neg (by omega)]

namespace Machine

/-- The two bytes of a valid plan span name it. -/
theorem planOf?_bytes {p : PlanSpan} (h : p.valid = true) : planOf? ⟨natByte p.primary, p.width.byte⟩ = some p := by
  have small : p.primary ≤ 255 := by
    unfold PlanSpan.valid at h
    split at h <;> simp at h <;> omega
  have width : Width.ofByte? p.width.byte = some p.width := by cases p.width <;> decide
  unfold planOf?
  simp only [width, natByte_toNat small]
  exact if_pos h

/-- Bytes that no valid plan span has name none. -/
theorem planOf?_of_invalid {r : RawPlan}
    (h : ∀ p : PlanSpan, p.valid = true → r ≠ ⟨natByte p.primary, p.width.byte⟩) : planOf? r = none := by
  unfold planOf?
  split
  · rename_i w hw
    refine if_neg fun valid => h _ valid ?_
    have width : r.width = w.byte := by
      unfold Width.ofByte? at hw
      split at hw
      · cases hw; assumption
      · split at hw
        · cases hw; assumption
        · cases hw
    exact congr (congrArg RawPlan.mk (by simp [natByte])) width
  · rfl

end Machine

end Sys2Proof
end

