-- ==== Sys2Proof/Laws/State.lean ====
section
/-! SUPPORT. What each update of the state leaves in each field, and one lane's value after an update of a lane. -/

namespace Sys2Proof

variable {α : Type}

@[simp] theorem PerLane.get_set_same (p : PerLane α) (l : Lane) (a : α) : (p.set l a).get l = a := by
  cases l <;> rfl

theorem PerLane.get_set_ne (p : PerLane α) {l m : Lane} (a : α) (h : m ≠ l) : (p.set l a).get m = p.get m := by
  cases l <;> cases m <;> first | rfl | exact absurd rfl h

theorem PerLane.get_set (p : PerLane α) (l m : Lane) (a : α) :
    (p.set l a).get m = if m = l then a else p.get m := by
  cases l <;> cases m <;> rfl

@[simp] theorem PerLane.set_set (p : PerLane α) (l : Lane) (a b : α) : (p.set l a).set l b = p.set l b := by
  cases l <;> rfl

@[simp] theorem PerLane.set_get (p : PerLane α) (l : Lane) : p.set l (p.get l) = p := by
  cases l <;> rfl

theorem PerLane.ext_get {p q : PerLane α} (h : ∀ l, p.get l = q.get l) : p = q := by
  cases p; cases q
  have h0 := h .l0
  have h1 := h .l1
  have h2 := h .l2
  simp only [PerLane.get] at h0 h1 h2
  simp [h0, h1, h2]

end Sys2Proof

namespace Sys2Proof.Machine

open Sys2Proof

namespace State

variable (s : State)

@[simp] theorem setPlan_resetN (l : Lane) (p : PlanLane) : (s.setPlan l p).resetN = s.resetN := rfl
@[simp] theorem setPlan_airTime (l : Lane) (p : PlanLane) : (s.setPlan l p).airTime = s.airTime := rfl
@[simp] theorem setPlan_tick (l : Lane) (p : PlanLane) : (s.setPlan l p).tick = s.tick := rfl
@[simp] theorem setPlan_ready (l : Lane) (p : PlanLane) : (s.setPlan l p).ready = s.ready := rfl
@[simp] theorem setPlan_response (l : Lane) (p : PlanLane) : (s.setPlan l p).response = s.response := rfl
@[simp] theorem setPlan_answer (l : Lane) (p : PlanLane) : (s.setPlan l p).answer = s.answer := rfl
@[simp] theorem setPlan_clocks (l : Lane) (p : PlanLane) : (s.setPlan l p).clocks = s.clocks := rfl
@[simp] theorem setPlan_sdo (l : Lane) (p : PlanLane) : (s.setPlan l p).sdo = s.sdo := rfl
@[simp] theorem setPlan_params (l : Lane) (p : PlanLane) : (s.setPlan l p).params = s.params := rfl
@[simp] theorem setPlan_mode (l : Lane) (p : PlanLane) : (s.setPlan l p).mode = s.mode := rfl
@[simp] theorem setPlan_startCause (l : Lane) (p : PlanLane) : (s.setPlan l p).startCause = s.startCause := rfl
@[simp] theorem setPlan_flags (l : Lane) (p : PlanLane) : (s.setPlan l p).flags = s.flags := rfl
@[simp] theorem setPlan_changed (l : Lane) (p : PlanLane) : (s.setPlan l p).changed = s.changed := rfl
@[simp] theorem setPlan_advised (l : Lane) (p : PlanLane) : (s.setPlan l p).advised = s.advised := rfl
@[simp] theorem setPlan_resets (l : Lane) (p : PlanLane) : (s.setPlan l p).resets = s.resets := rfl
@[simp] theorem setPlan_tracker (l : Lane) (p : PlanLane) : (s.setPlan l p).tracker = s.tracker := rfl
@[simp] theorem setPlan_table (l : Lane) (p : PlanLane) : (s.setPlan l p).table = s.table := rfl
@[simp] theorem setPlan_coverage (l : Lane) (p : PlanLane) : (s.setPlan l p).coverage = s.coverage := rfl
@[simp] theorem setPlan_stations (l : Lane) (p : PlanLane) : (s.setPlan l p).stations = s.stations := rfl
@[simp] theorem setPlan_plans (l : Lane) (p : PlanLane) : (s.setPlan l p).plans = s.plans.set l p := rfl
@[simp] theorem setPlan_arbiter (l : Lane) (p : PlanLane) : (s.setPlan l p).arbiter = s.arbiter := rfl
@[simp] theorem setPlan_grants (l : Lane) (p : PlanLane) : (s.setPlan l p).grants = s.grants := rfl
@[simp] theorem setPlan_links (l : Lane) (p : PlanLane) : (s.setPlan l p).links = s.links := rfl
@[simp] theorem setPlan_handed (l : Lane) (p : PlanLane) : (s.setPlan l p).handed = s.handed := rfl
@[simp] theorem setPlan_choices (l : Lane) (p : PlanLane) : (s.setPlan l p).choices = s.choices := rfl
@[simp] theorem setPlan_pending (l : Lane) (p : PlanLane) : (s.setPlan l p).pending = s.pending := rfl

@[simp] theorem setGrant_resetN (l : Lane) (g : GrantLane) : (s.setGrant l g).resetN = s.resetN := rfl
@[simp] theorem setGrant_airTime (l : Lane) (g : GrantLane) : (s.setGrant l g).airTime = s.airTime := rfl
@[simp] theorem setGrant_tick (l : Lane) (g : GrantLane) : (s.setGrant l g).tick = s.tick := rfl
@[simp] theorem setGrant_ready (l : Lane) (g : GrantLane) : (s.setGrant l g).ready = s.ready := rfl
@[simp] theorem setGrant_response (l : Lane) (g : GrantLane) : (s.setGrant l g).response = s.response := rfl
@[simp] theorem setGrant_answer (l : Lane) (g : GrantLane) : (s.setGrant l g).answer = s.answer := rfl
@[simp] theorem setGrant_clocks (l : Lane) (g : GrantLane) : (s.setGrant l g).clocks = s.clocks := rfl
@[simp] theorem setGrant_sdo (l : Lane) (g : GrantLane) : (s.setGrant l g).sdo = s.sdo := rfl
@[simp] theorem setGrant_params (l : Lane) (g : GrantLane) : (s.setGrant l g).params = s.params := rfl
@[simp] theorem setGrant_mode (l : Lane) (g : GrantLane) : (s.setGrant l g).mode = s.mode := rfl
@[simp] theorem setGrant_startCause (l : Lane) (g : GrantLane) : (s.setGrant l g).startCause = s.startCause := rfl
@[simp] theorem setGrant_flags (l : Lane) (g : GrantLane) : (s.setGrant l g).flags = s.flags := rfl
@[simp] theorem setGrant_changed (l : Lane) (g : GrantLane) : (s.setGrant l g).changed = s.changed := rfl
@[simp] theorem setGrant_advised (l : Lane) (g : GrantLane) : (s.setGrant l g).advised = s.advised := rfl
@[simp] theorem setGrant_resets (l : Lane) (g : GrantLane) : (s.setGrant l g).resets = s.resets := rfl
@[simp] theorem setGrant_tracker (l : Lane) (g : GrantLane) : (s.setGrant l g).tracker = s.tracker := rfl
@[simp] theorem setGrant_table (l : Lane) (g : GrantLane) : (s.setGrant l g).table = s.table := rfl
@[simp] theorem setGrant_coverage (l : Lane) (g : GrantLane) : (s.setGrant l g).coverage = s.coverage := rfl
@[simp] theorem setGrant_stations (l : Lane) (g : GrantLane) : (s.setGrant l g).stations = s.stations := rfl
@[simp] theorem setGrant_plans (l : Lane) (g : GrantLane) : (s.setGrant l g).plans = s.plans := rfl
@[simp] theorem setGrant_arbiter (l : Lane) (g : GrantLane) : (s.setGrant l g).arbiter = s.arbiter := rfl
@[simp] theorem setGrant_grants (l : Lane) (g : GrantLane) : (s.setGrant l g).grants = s.grants.set l g := rfl
@[simp] theorem setGrant_links (l : Lane) (g : GrantLane) : (s.setGrant l g).links = s.links := rfl
@[simp] theorem setGrant_handed (l : Lane) (g : GrantLane) : (s.setGrant l g).handed = s.handed := rfl
@[simp] theorem setGrant_choices (l : Lane) (g : GrantLane) : (s.setGrant l g).choices = s.choices := rfl
@[simp] theorem setGrant_pending (l : Lane) (g : GrantLane) : (s.setGrant l g).pending = s.pending := rfl

@[simp] theorem setLink_resetN (l : Lane) (k : LinkLane) : (s.setLink l k).resetN = s.resetN := rfl
@[simp] theorem setLink_airTime (l : Lane) (k : LinkLane) : (s.setLink l k).airTime = s.airTime := rfl
@[simp] theorem setLink_tick (l : Lane) (k : LinkLane) : (s.setLink l k).tick = s.tick := rfl
@[simp] theorem setLink_ready (l : Lane) (k : LinkLane) : (s.setLink l k).ready = s.ready := rfl
@[simp] theorem setLink_response (l : Lane) (k : LinkLane) : (s.setLink l k).response = s.response := rfl
@[simp] theorem setLink_answer (l : Lane) (k : LinkLane) : (s.setLink l k).answer = s.answer := rfl
@[simp] theorem setLink_clocks (l : Lane) (k : LinkLane) : (s.setLink l k).clocks = s.clocks := rfl
@[simp] theorem setLink_sdo (l : Lane) (k : LinkLane) : (s.setLink l k).sdo = s.sdo := rfl
@[simp] theorem setLink_params (l : Lane) (k : LinkLane) : (s.setLink l k).params = s.params := rfl
@[simp] theorem setLink_mode (l : Lane) (k : LinkLane) : (s.setLink l k).mode = s.mode := rfl
@[simp] theorem setLink_startCause (l : Lane) (k : LinkLane) : (s.setLink l k).startCause = s.startCause := rfl
@[simp] theorem setLink_flags (l : Lane) (k : LinkLane) : (s.setLink l k).flags = s.flags := rfl
@[simp] theorem setLink_changed (l : Lane) (k : LinkLane) : (s.setLink l k).changed = s.changed := rfl
@[simp] theorem setLink_advised (l : Lane) (k : LinkLane) : (s.setLink l k).advised = s.advised := rfl
@[simp] theorem setLink_resets (l : Lane) (k : LinkLane) : (s.setLink l k).resets = s.resets := rfl
@[simp] theorem setLink_tracker (l : Lane) (k : LinkLane) : (s.setLink l k).tracker = s.tracker := rfl
@[simp] theorem setLink_table (l : Lane) (k : LinkLane) : (s.setLink l k).table = s.table := rfl
@[simp] theorem setLink_coverage (l : Lane) (k : LinkLane) : (s.setLink l k).coverage = s.coverage := rfl
@[simp] theorem setLink_stations (l : Lane) (k : LinkLane) : (s.setLink l k).stations = s.stations := rfl
@[simp] theorem setLink_plans (l : Lane) (k : LinkLane) : (s.setLink l k).plans = s.plans := rfl
@[simp] theorem setLink_arbiter (l : Lane) (k : LinkLane) : (s.setLink l k).arbiter = s.arbiter := rfl
@[simp] theorem setLink_grants (l : Lane) (k : LinkLane) : (s.setLink l k).grants = s.grants := rfl
@[simp] theorem setLink_links (l : Lane) (k : LinkLane) : (s.setLink l k).links = s.links.set l k := rfl
@[simp] theorem setLink_handed (l : Lane) (k : LinkLane) : (s.setLink l k).handed = s.handed := rfl
@[simp] theorem setLink_choices (l : Lane) (k : LinkLane) : (s.setLink l k).choices = s.choices := rfl
@[simp] theorem setLink_pending (l : Lane) (k : LinkLane) : (s.setLink l k).pending = s.pending := rfl

@[simp] theorem setTracker_resetN (t : Tracker) : (s.setTracker t).resetN = s.resetN := rfl
@[simp] theorem setTracker_airTime (t : Tracker) : (s.setTracker t).airTime = s.airTime := rfl
@[simp] theorem setTracker_tick (t : Tracker) : (s.setTracker t).tick = s.tick := rfl
@[simp] theorem setTracker_ready (t : Tracker) : (s.setTracker t).ready = s.ready := rfl
@[simp] theorem setTracker_response (t : Tracker) : (s.setTracker t).response = s.response := rfl
@[simp] theorem setTracker_answer (t : Tracker) : (s.setTracker t).answer = s.answer := rfl
@[simp] theorem setTracker_clocks (t : Tracker) : (s.setTracker t).clocks = s.clocks := rfl
@[simp] theorem setTracker_sdo (t : Tracker) : (s.setTracker t).sdo = s.sdo := rfl
@[simp] theorem setTracker_params (t : Tracker) : (s.setTracker t).params = s.params := rfl
@[simp] theorem setTracker_mode (t : Tracker) : (s.setTracker t).mode = s.mode := rfl
@[simp] theorem setTracker_startCause (t : Tracker) : (s.setTracker t).startCause = s.startCause := rfl
@[simp] theorem setTracker_flags (t : Tracker) : (s.setTracker t).flags = s.flags := rfl
@[simp] theorem setTracker_changed (t : Tracker) : (s.setTracker t).changed = s.changed := rfl
@[simp] theorem setTracker_advised (t : Tracker) : (s.setTracker t).advised = s.advised := rfl
@[simp] theorem setTracker_resets (t : Tracker) : (s.setTracker t).resets = s.resets := rfl
@[simp] theorem setTracker_tracker (t : Tracker) : (s.setTracker t).tracker = t := rfl
@[simp] theorem setTracker_table (t : Tracker) : (s.setTracker t).table = s.table := rfl
@[simp] theorem setTracker_coverage (t : Tracker) : (s.setTracker t).coverage = s.coverage := rfl
@[simp] theorem setTracker_stations (t : Tracker) : (s.setTracker t).stations = s.stations := rfl
@[simp] theorem setTracker_plans (t : Tracker) : (s.setTracker t).plans = s.plans := rfl
@[simp] theorem setTracker_arbiter (t : Tracker) : (s.setTracker t).arbiter = s.arbiter := rfl
@[simp] theorem setTracker_grants (t : Tracker) : (s.setTracker t).grants = s.grants := rfl
@[simp] theorem setTracker_links (t : Tracker) : (s.setTracker t).links = s.links := rfl
@[simp] theorem setTracker_handed (t : Tracker) : (s.setTracker t).handed = s.handed := rfl
@[simp] theorem setTracker_choices (t : Tracker) : (s.setTracker t).choices = s.choices := rfl
@[simp] theorem setTracker_pending (t : Tracker) : (s.setTracker t).pending = s.pending := rfl

@[simp] theorem setSlot_resetN (k : Slot) (r : Option Interferer) : (s.setSlot k r).resetN = s.resetN := rfl
@[simp] theorem setSlot_airTime (k : Slot) (r : Option Interferer) : (s.setSlot k r).airTime = s.airTime := rfl
@[simp] theorem setSlot_tick (k : Slot) (r : Option Interferer) : (s.setSlot k r).tick = s.tick := rfl
@[simp] theorem setSlot_ready (k : Slot) (r : Option Interferer) : (s.setSlot k r).ready = s.ready := rfl
@[simp] theorem setSlot_response (k : Slot) (r : Option Interferer) : (s.setSlot k r).response = s.response := rfl
@[simp] theorem setSlot_answer (k : Slot) (r : Option Interferer) : (s.setSlot k r).answer = s.answer := rfl
@[simp] theorem setSlot_clocks (k : Slot) (r : Option Interferer) : (s.setSlot k r).clocks = s.clocks := rfl
@[simp] theorem setSlot_sdo (k : Slot) (r : Option Interferer) : (s.setSlot k r).sdo = s.sdo := rfl
@[simp] theorem setSlot_params (k : Slot) (r : Option Interferer) : (s.setSlot k r).params = s.params := rfl
@[simp] theorem setSlot_mode (k : Slot) (r : Option Interferer) : (s.setSlot k r).mode = s.mode := rfl
@[simp] theorem setSlot_startCause (k : Slot) (r : Option Interferer) : (s.setSlot k r).startCause = s.startCause := rfl
@[simp] theorem setSlot_flags (k : Slot) (r : Option Interferer) : (s.setSlot k r).flags = s.flags := rfl
@[simp] theorem setSlot_changed (k : Slot) (r : Option Interferer) : (s.setSlot k r).changed = s.changed := rfl
@[simp] theorem setSlot_advised (k : Slot) (r : Option Interferer) : (s.setSlot k r).advised = s.advised := rfl
@[simp] theorem setSlot_resets (k : Slot) (r : Option Interferer) : (s.setSlot k r).resets = s.resets := rfl
@[simp] theorem setSlot_tracker (k : Slot) (r : Option Interferer) : (s.setSlot k r).tracker = s.tracker := rfl
@[simp] theorem setSlot_table (k : Slot) (r : Option Interferer) : (s.setSlot k r).table = s.table.set k r := rfl
@[simp] theorem setSlot_coverage (k : Slot) (r : Option Interferer) : (s.setSlot k r).coverage = s.coverage := rfl
@[simp] theorem setSlot_stations (k : Slot) (r : Option Interferer) : (s.setSlot k r).stations = s.stations := rfl
@[simp] theorem setSlot_plans (k : Slot) (r : Option Interferer) : (s.setSlot k r).plans = s.plans := rfl
@[simp] theorem setSlot_arbiter (k : Slot) (r : Option Interferer) : (s.setSlot k r).arbiter = s.arbiter := rfl
@[simp] theorem setSlot_grants (k : Slot) (r : Option Interferer) : (s.setSlot k r).grants = s.grants := rfl
@[simp] theorem setSlot_links (k : Slot) (r : Option Interferer) : (s.setSlot k r).links = s.links := rfl
@[simp] theorem setSlot_handed (k : Slot) (r : Option Interferer) : (s.setSlot k r).handed = s.handed := rfl
@[simp] theorem setSlot_choices (k : Slot) (r : Option Interferer) : (s.setSlot k r).choices = s.choices := rfl
@[simp] theorem setSlot_pending (k : Slot) (r : Option Interferer) : (s.setSlot k r).pending = s.pending := rfl

@[simp] theorem setStation_resetN (k : StationSlot) (r : Option Station) : (s.setStation k r).resetN = s.resetN := rfl
@[simp] theorem setStation_airTime (k : StationSlot) (r : Option Station) : (s.setStation k r).airTime = s.airTime := rfl
@[simp] theorem setStation_tick (k : StationSlot) (r : Option Station) : (s.setStation k r).tick = s.tick := rfl
@[simp] theorem setStation_ready (k : StationSlot) (r : Option Station) : (s.setStation k r).ready = s.ready := rfl
@[simp] theorem setStation_response (k : StationSlot) (r : Option Station) : (s.setStation k r).response = s.response := rfl
@[simp] theorem setStation_answer (k : StationSlot) (r : Option Station) : (s.setStation k r).answer = s.answer := rfl
@[simp] theorem setStation_clocks (k : StationSlot) (r : Option Station) : (s.setStation k r).clocks = s.clocks := rfl
@[simp] theorem setStation_sdo (k : StationSlot) (r : Option Station) : (s.setStation k r).sdo = s.sdo := rfl
@[simp] theorem setStation_params (k : StationSlot) (r : Option Station) : (s.setStation k r).params = s.params := rfl
@[simp] theorem setStation_mode (k : StationSlot) (r : Option Station) : (s.setStation k r).mode = s.mode := rfl
@[simp] theorem setStation_startCause (k : StationSlot) (r : Option Station) : (s.setStation k r).startCause = s.startCause := rfl
@[simp] theorem setStation_flags (k : StationSlot) (r : Option Station) : (s.setStation k r).flags = s.flags := rfl
@[simp] theorem setStation_changed (k : StationSlot) (r : Option Station) : (s.setStation k r).changed = s.changed := rfl
@[simp] theorem setStation_advised (k : StationSlot) (r : Option Station) : (s.setStation k r).advised = s.advised := rfl
@[simp] theorem setStation_resets (k : StationSlot) (r : Option Station) : (s.setStation k r).resets = s.resets := rfl
@[simp] theorem setStation_tracker (k : StationSlot) (r : Option Station) : (s.setStation k r).tracker = s.tracker := rfl
@[simp] theorem setStation_table (k : StationSlot) (r : Option Station) : (s.setStation k r).table = s.table := rfl
@[simp] theorem setStation_coverage (k : StationSlot) (r : Option Station) : (s.setStation k r).coverage = s.coverage := rfl
@[simp] theorem setStation_stations (k : StationSlot) (r : Option Station) : (s.setStation k r).stations = s.stations.set k r := rfl
@[simp] theorem setStation_plans (k : StationSlot) (r : Option Station) : (s.setStation k r).plans = s.plans := rfl
@[simp] theorem setStation_arbiter (k : StationSlot) (r : Option Station) : (s.setStation k r).arbiter = s.arbiter := rfl
@[simp] theorem setStation_grants (k : StationSlot) (r : Option Station) : (s.setStation k r).grants = s.grants := rfl
@[simp] theorem setStation_links (k : StationSlot) (r : Option Station) : (s.setStation k r).links = s.links := rfl
@[simp] theorem setStation_handed (k : StationSlot) (r : Option Station) : (s.setStation k r).handed = s.handed := rfl
@[simp] theorem setStation_choices (k : StationSlot) (r : Option Station) : (s.setStation k r).choices = s.choices := rfl
@[simp] theorem setStation_pending (k : StationSlot) (r : Option Station) : (s.setStation k r).pending = s.pending := rfl

@[simp] theorem setAdvised_resetN (a : BitVec 64) : (s.setAdvised a).resetN = s.resetN := rfl
@[simp] theorem setAdvised_airTime (a : BitVec 64) : (s.setAdvised a).airTime = s.airTime := rfl
@[simp] theorem setAdvised_tick (a : BitVec 64) : (s.setAdvised a).tick = s.tick := rfl
@[simp] theorem setAdvised_ready (a : BitVec 64) : (s.setAdvised a).ready = s.ready := rfl
@[simp] theorem setAdvised_response (a : BitVec 64) : (s.setAdvised a).response = s.response := rfl
@[simp] theorem setAdvised_answer (a : BitVec 64) : (s.setAdvised a).answer = s.answer := rfl
@[simp] theorem setAdvised_clocks (a : BitVec 64) : (s.setAdvised a).clocks = s.clocks := rfl
@[simp] theorem setAdvised_sdo (a : BitVec 64) : (s.setAdvised a).sdo = s.sdo := rfl
@[simp] theorem setAdvised_params (a : BitVec 64) : (s.setAdvised a).params = s.params := rfl
@[simp] theorem setAdvised_mode (a : BitVec 64) : (s.setAdvised a).mode = s.mode := rfl
@[simp] theorem setAdvised_startCause (a : BitVec 64) : (s.setAdvised a).startCause = s.startCause := rfl
@[simp] theorem setAdvised_flags (a : BitVec 64) : (s.setAdvised a).flags = s.flags := rfl
@[simp] theorem setAdvised_changed (a : BitVec 64) : (s.setAdvised a).changed = s.changed := rfl
@[simp] theorem setAdvised_advised (a : BitVec 64) : (s.setAdvised a).advised = a := rfl
@[simp] theorem setAdvised_resets (a : BitVec 64) : (s.setAdvised a).resets = s.resets := rfl
@[simp] theorem setAdvised_tracker (a : BitVec 64) : (s.setAdvised a).tracker = s.tracker := rfl
@[simp] theorem setAdvised_table (a : BitVec 64) : (s.setAdvised a).table = s.table := rfl
@[simp] theorem setAdvised_coverage (a : BitVec 64) : (s.setAdvised a).coverage = s.coverage := rfl
@[simp] theorem setAdvised_stations (a : BitVec 64) : (s.setAdvised a).stations = s.stations := rfl
@[simp] theorem setAdvised_plans (a : BitVec 64) : (s.setAdvised a).plans = s.plans := rfl
@[simp] theorem setAdvised_arbiter (a : BitVec 64) : (s.setAdvised a).arbiter = s.arbiter := rfl
@[simp] theorem setAdvised_grants (a : BitVec 64) : (s.setAdvised a).grants = s.grants := rfl
@[simp] theorem setAdvised_links (a : BitVec 64) : (s.setAdvised a).links = s.links := rfl
@[simp] theorem setAdvised_handed (a : BitVec 64) : (s.setAdvised a).handed = s.handed := rfl
@[simp] theorem setAdvised_choices (a : BitVec 64) : (s.setAdvised a).choices = s.choices := rfl
@[simp] theorem setAdvised_pending (a : BitVec 64) : (s.setAdvised a).pending = s.pending := rfl

@[simp] theorem taking_resetN (h : Handed) : (s.taking h).resetN = s.resetN := rfl
@[simp] theorem taking_airTime (h : Handed) : (s.taking h).airTime = s.airTime := rfl
@[simp] theorem taking_tick (h : Handed) : (s.taking h).tick = s.tick := rfl
@[simp] theorem taking_ready (h : Handed) : (s.taking h).ready = s.ready := rfl
@[simp] theorem taking_response (h : Handed) : (s.taking h).response = s.response := rfl
@[simp] theorem taking_answer (h : Handed) : (s.taking h).answer = s.answer := rfl
@[simp] theorem taking_clocks (h : Handed) : (s.taking h).clocks = s.clocks := rfl
@[simp] theorem taking_sdo (h : Handed) : (s.taking h).sdo = s.sdo := rfl
@[simp] theorem taking_params (h : Handed) : (s.taking h).params = s.params := rfl
@[simp] theorem taking_mode (h : Handed) : (s.taking h).mode = s.mode := rfl
@[simp] theorem taking_startCause (h : Handed) : (s.taking h).startCause = s.startCause := rfl
@[simp] theorem taking_flags (h : Handed) : (s.taking h).flags = s.flags := rfl
@[simp] theorem taking_changed (h : Handed) : (s.taking h).changed = s.changed := rfl
@[simp] theorem taking_advised (h : Handed) : (s.taking h).advised = s.advised := rfl
@[simp] theorem taking_resets (h : Handed) : (s.taking h).resets = s.resets := rfl
@[simp] theorem taking_tracker (h : Handed) : (s.taking h).tracker = s.tracker := rfl
@[simp] theorem taking_table (h : Handed) : (s.taking h).table = s.table := rfl
@[simp] theorem taking_coverage (h : Handed) : (s.taking h).coverage = s.coverage := rfl
@[simp] theorem taking_stations (h : Handed) : (s.taking h).stations = s.stations := rfl
@[simp] theorem taking_plans (h : Handed) : (s.taking h).plans = s.plans := rfl
@[simp] theorem taking_arbiter (h : Handed) : (s.taking h).arbiter = s.arbiter := rfl
@[simp] theorem taking_grants (h : Handed) : (s.taking h).grants = s.grants := rfl
@[simp] theorem taking_links (h : Handed) : (s.taking h).links = s.links := rfl
@[simp] theorem taking_handed (h : Handed) : (s.taking h).handed = s.handed.erase h := rfl
@[simp] theorem taking_choices (h : Handed) : (s.taking h).choices = s.choices := rfl
@[simp] theorem taking_pending (h : Handed) : (s.taking h).pending = s.pending := rfl

@[simp] theorem answering_resetN (c : Instr) (x : Response) : (s.answering c x).resetN = s.resetN := rfl
@[simp] theorem answering_airTime (c : Instr) (x : Response) : (s.answering c x).airTime = s.airTime := rfl
@[simp] theorem answering_tick (c : Instr) (x : Response) : (s.answering c x).tick = s.tick := rfl
@[simp] theorem answering_ready (c : Instr) (x : Response) : (s.answering c x).ready = false := rfl
@[simp] theorem answering_response (c : Instr) (x : Response) : (s.answering c x).response = s.response := rfl
@[simp] theorem answering_answer (c : Instr) (x : Response) : (s.answering c x).answer = some x := rfl
@[simp] theorem answering_clocks (c : Instr) (x : Response) : (s.answering c x).clocks = s.clocks := rfl
@[simp] theorem answering_sdo (c : Instr) (x : Response) : (s.answering c x).sdo = s.response.shiftOut (s.clocksOf c) := rfl
@[simp] theorem answering_params (c : Instr) (x : Response) : (s.answering c x).params = s.params := rfl
@[simp] theorem answering_mode (c : Instr) (x : Response) : (s.answering c x).mode = s.mode := rfl
@[simp] theorem answering_startCause (c : Instr) (x : Response) : (s.answering c x).startCause = s.startCause := rfl
@[simp] theorem answering_flags (c : Instr) (x : Response) : (s.answering c x).flags = s.flags := rfl
@[simp] theorem answering_changed (c : Instr) (x : Response) : (s.answering c x).changed = s.changed := rfl
@[simp] theorem answering_advised (c : Instr) (x : Response) : (s.answering c x).advised = s.advised := rfl
@[simp] theorem answering_resets (c : Instr) (x : Response) : (s.answering c x).resets = s.resets := rfl
@[simp] theorem answering_tracker (c : Instr) (x : Response) : (s.answering c x).tracker = s.tracker := rfl
@[simp] theorem answering_table (c : Instr) (x : Response) : (s.answering c x).table = s.table := rfl
@[simp] theorem answering_coverage (c : Instr) (x : Response) : (s.answering c x).coverage = s.coverage := rfl
@[simp] theorem answering_stations (c : Instr) (x : Response) : (s.answering c x).stations = s.stations := rfl
@[simp] theorem answering_plans (c : Instr) (x : Response) : (s.answering c x).plans = s.plans := rfl
@[simp] theorem answering_arbiter (c : Instr) (x : Response) : (s.answering c x).arbiter = s.arbiter := rfl
@[simp] theorem answering_grants (c : Instr) (x : Response) : (s.answering c x).grants = s.grants := rfl
@[simp] theorem answering_links (c : Instr) (x : Response) : (s.answering c x).links = s.links := rfl
@[simp] theorem answering_handed (c : Instr) (x : Response) : (s.answering c x).handed = s.handed := rfl
@[simp] theorem answering_choices (c : Instr) (x : Response) : (s.answering c x).choices = s.choices := rfl
@[simp] theorem answering_pending (c : Instr) (x : Response) : (s.answering c x).pending = s.pending := rfl

@[simp] theorem completed_resetN (x : Response) : (s.completed x).resetN = s.resetN := rfl
@[simp] theorem completed_airTime (x : Response) : (s.completed x).airTime = s.airTime := rfl
@[simp] theorem completed_tick (x : Response) : (s.completed x).tick = s.tick := rfl
@[simp] theorem completed_ready (x : Response) : (s.completed x).ready = true := rfl
@[simp] theorem completed_response (x : Response) : (s.completed x).response = x := rfl
@[simp] theorem completed_answer (x : Response) : (s.completed x).answer = none := rfl
@[simp] theorem completed_clocks (x : Response) : (s.completed x).clocks = s.clocks := rfl
@[simp] theorem completed_sdo (x : Response) : (s.completed x).sdo = s.sdo := rfl
@[simp] theorem completed_params (x : Response) : (s.completed x).params = s.params := rfl
@[simp] theorem completed_mode (x : Response) : (s.completed x).mode = s.mode := rfl
@[simp] theorem completed_startCause (x : Response) : (s.completed x).startCause = s.startCause := rfl
@[simp] theorem completed_flags (x : Response) : (s.completed x).flags = s.flags := rfl
@[simp] theorem completed_changed (x : Response) : (s.completed x).changed = s.changed := rfl
@[simp] theorem completed_advised (x : Response) : (s.completed x).advised = s.advised := rfl
@[simp] theorem completed_resets (x : Response) : (s.completed x).resets = s.resets := rfl
@[simp] theorem completed_tracker (x : Response) : (s.completed x).tracker = s.tracker := rfl
@[simp] theorem completed_table (x : Response) : (s.completed x).table = s.table := rfl
@[simp] theorem completed_coverage (x : Response) : (s.completed x).coverage = s.coverage := rfl
@[simp] theorem completed_stations (x : Response) : (s.completed x).stations = s.stations := rfl
@[simp] theorem completed_plans (x : Response) : (s.completed x).plans = s.plans := rfl
@[simp] theorem completed_arbiter (x : Response) : (s.completed x).arbiter = s.arbiter := rfl
@[simp] theorem completed_grants (x : Response) : (s.completed x).grants = s.grants := rfl
@[simp] theorem completed_links (x : Response) : (s.completed x).links = s.links := rfl
@[simp] theorem completed_handed (x : Response) : (s.completed x).handed = s.handed := rfl
@[simp] theorem completed_choices (x : Response) : (s.completed x).choices = s.choices := rfl
@[simp] theorem completed_pending (x : Response) : (s.completed x).pending = s.pending := rfl

@[simp] theorem carryNotReady_resetN (n : Nat) : (s.carryNotReady n).resetN = s.resetN := rfl
@[simp] theorem carryNotReady_airTime (n : Nat) : (s.carryNotReady n).airTime = s.airTime := rfl
@[simp] theorem carryNotReady_tick (n : Nat) : (s.carryNotReady n).tick = s.tick := rfl
@[simp] theorem carryNotReady_ready (n : Nat) : (s.carryNotReady n).ready = s.ready := rfl
@[simp] theorem carryNotReady_response (n : Nat) : (s.carryNotReady n).response = s.response := rfl
@[simp] theorem carryNotReady_answer (n : Nat) : (s.carryNotReady n).answer = s.answer := rfl
@[simp] theorem carryNotReady_clocks (n : Nat) : (s.carryNotReady n).clocks = s.clocks := rfl
@[simp] theorem carryNotReady_sdo (n : Nat) : (s.carryNotReady n).sdo = (Response.mk .notReady []).shiftOut n := rfl
@[simp] theorem carryNotReady_params (n : Nat) : (s.carryNotReady n).params = s.params := rfl
@[simp] theorem carryNotReady_mode (n : Nat) : (s.carryNotReady n).mode = s.mode := rfl
@[simp] theorem carryNotReady_startCause (n : Nat) : (s.carryNotReady n).startCause = s.startCause := rfl
@[simp] theorem carryNotReady_flags (n : Nat) : (s.carryNotReady n).flags = s.flags := rfl
@[simp] theorem carryNotReady_changed (n : Nat) : (s.carryNotReady n).changed = s.changed := rfl
@[simp] theorem carryNotReady_advised (n : Nat) : (s.carryNotReady n).advised = s.advised := rfl
@[simp] theorem carryNotReady_resets (n : Nat) : (s.carryNotReady n).resets = s.resets := rfl
@[simp] theorem carryNotReady_tracker (n : Nat) : (s.carryNotReady n).tracker = s.tracker := rfl
@[simp] theorem carryNotReady_table (n : Nat) : (s.carryNotReady n).table = s.table := rfl
@[simp] theorem carryNotReady_coverage (n : Nat) : (s.carryNotReady n).coverage = s.coverage := rfl
@[simp] theorem carryNotReady_stations (n : Nat) : (s.carryNotReady n).stations = s.stations := rfl
@[simp] theorem carryNotReady_plans (n : Nat) : (s.carryNotReady n).plans = s.plans := rfl
@[simp] theorem carryNotReady_arbiter (n : Nat) : (s.carryNotReady n).arbiter = s.arbiter := rfl
@[simp] theorem carryNotReady_grants (n : Nat) : (s.carryNotReady n).grants = s.grants := rfl
@[simp] theorem carryNotReady_links (n : Nat) : (s.carryNotReady n).links = s.links := rfl
@[simp] theorem carryNotReady_handed (n : Nat) : (s.carryNotReady n).handed = s.handed := rfl
@[simp] theorem carryNotReady_choices (n : Nat) : (s.carryNotReady n).choices = s.choices := rfl
@[simp] theorem carryNotReady_pending (n : Nat) : (s.carryNotReady n).pending = s.pending := rfl

end State

end Sys2Proof.Machine
end

