-- ==== Sys2Proof/Laws/Ops.lean ====
section
/-! SUPPORT. What each shared operation can do, said once: the fields it may change, as one equation, and its cases. -/

namespace Sys2Proof.Machine

open Sys2Proof

namespace State

variable (s : State)

/-! ## Handing work -/

theorem crossesReset_of_none (h : s.resets = []) (a b : Block) : s.crossesReset a b = false := by
  simp [crossesReset, resetting, h]

/-- hand changes the queue of handed work and nothing else, by one piece or not at all. -/
theorem hand_eq (src : Block) (h : Handed) :
    s.hand src h = { s with handed := if s.crossesReset src h.receiver then s.handed else s.handed ++ [h] } := by
  unfold hand; split <;> rfl

theorem hand_of_none (hr : s.resets = []) (src : Block) (h : Handed) :
    s.hand src h = { s with handed := s.handed ++ [h] } := by
  simp [hand, crossesReset_of_none s hr]

theorem request_eq (src : Block) (f : Flag) : s.request src f = s.hand src (.attentionSetRequest f) := rfl

theorem request_of_none (hr : s.resets = []) (src : Block) (f : Flag) :
    s.request src f = { s with handed := s.handed ++ [.attentionSetRequest f] } :=
  hand_of_none s hr src _

/-! ## The links -/

/-- faultLink changes nothing when the latch is set, and otherwise sets it and hands one LINK_FAULT request. -/
theorem faultLink_cases (l : Lane) :
    ((s.links.get l).latch = true ∧ s.faultLink l = s) ∨
      ((s.links.get l).latch = false ∧
        s.faultLink l = (s.setLink l { s.links.get l with latch := true }).request .lli (.lane .linkFault l)) := by
  unfold faultLink
  cases h : (s.links.get l).latch <;> simp [h]

/-- faultLink changes links and handed work only. -/
theorem faultLink_frame (l : Lane) : ∃ k h, s.faultLink l = { s with links := k, handed := h } := by
  rcases faultLink_cases s l with ⟨_, e⟩ | ⟨_, e⟩
  · exact ⟨s.links, s.handed, e⟩
  · exact ⟨_, _, by rw [e, request_eq, hand_eq]; rfl⟩

/-- sendOut has three cases: dropped across a reset, queued at the tail, or discarded by a full queue that sets the
latch. -/
theorem sendOut_cases (src : Block) (l : Lane) (m : OutMsg) :
    (s.crossesReset src .lli = true ∧ s.sendOut src l m = s) ∨
      (s.crossesReset src .lli = false ∧ (s.links.get l).outbound.length < 16 ∧
        s.sendOut src l m =
          s.setLink l { s.links.get l with outbound := (s.links.get l).outbound ++ [m] }) ∨
      (s.crossesReset src .lli = false ∧ 16 ≤ (s.links.get l).outbound.length ∧
        s.sendOut src l m = s.faultLink l) := by
  unfold sendOut
  by_cases hc : s.crossesReset src .lli = true
  · simp [hc]
  · by_cases hl : (s.links.get l).outbound.length < 16
    · exact .inr (.inl ⟨by simpa using hc, hl, by simp [hc, Config.outboundDepth, hl]⟩)
    · exact .inr (.inr ⟨by simpa using hc, by omega, by simp [hc, Config.outboundDepth, hl]⟩)

/-- sendOut changes links and handed work only. -/
theorem sendOut_frame (src : Block) (l : Lane) (m : OutMsg) :
    ∃ k h, s.sendOut src l m = { s with links := k, handed := h } := by
  rcases sendOut_cases s src l m with ⟨_, e⟩ | ⟨_, _, e⟩ | ⟨_, _, e⟩
  · exact ⟨s.links, s.handed, e⟩
  · exact ⟨_, s.handed, e⟩
  · rw [e]; exact faultLink_frame s l

/-- With room in the queue and no soft reset in progress, a message joins the tail of its lane's queue. -/
theorem sendOut_of_room (hr : s.resets = []) (src : Block) (l : Lane) (m : OutMsg)
    (hq : (s.links.get l).outbound.length < 16) :
    s.sendOut src l m = s.setLink l { s.links.get l with outbound := (s.links.get l).outbound ++ [m] } := by
  simp [sendOut, crossesReset_of_none s hr, Config.outboundDepth, hq]

/-! ## Claims on the table -/

/-- The notices of a claim change handed work only. -/
theorem handNotices_frame (n : BitVec 32) : ∃ h, s.handNotices n = { s with handed := h } := by
  unfold handNotices
  generalize List.finRange 32 = ks
  induction ks generalizing s with
  | nil => exact ⟨s.handed, rfl⟩
  | cons k ks ih =>
    simp only [List.foldl_cons]
    split
    · rw [hand_eq]
      obtain ⟨h, e⟩ := ih { s with handed := if s.crossesReset .ift (Handed.changeNotice k).receiver then s.handed
        else s.handed ++ [.changeNotice k] }
      exact ⟨h, e⟩
    · exact ih s

/-- The completion of a claim changes the changed-interferer set and handed work only. -/
theorem completeClaim_frame (m : Marks) : ∃ c h, s.completeClaim m = { s with changed := c, handed := h } := by
  unfold completeClaim
  split
  · obtain ⟨h, e⟩ := handNotices_frame s m.noticed
    exact ⟨s.changed, h, e⟩
  · obtain ⟨h, e⟩ := handNotices_frame { s with changed := s.changed ||| m.entered } m.noticed
    exact ⟨_, h, e⟩

theorem notifyCadence_frame : ∃ h, s.notifyCadence = { s with handed := h } := by
  unfold notifyCadence
  rw [request_eq, hand_eq, hand_eq]
  exact ⟨_, rfl⟩

/-- A record without its phase is of the same kind. -/
theorem isCadenced_withoutPhase (r : Interferer) :
    ({ r with emission := r.emission.withoutPhase } : Interferer).isCadenced = r.isCadenced := by
  obtain ⟨e, _⟩ := r
  cases e <;> rfl

/-- A record without its phase has none. -/
theorem phase_withoutPhase (r : Interferer) : ({ r with emission := r.emission.withoutPhase } : Interferer).phase = none := by
  obtain ⟨e, _⟩ := r
  cases e <;> rfl

/-- What the removal of phases leaves in a slot. -/
theorem removePhases_table (k : Slot) :
    s.removePhases.table[k] = (s.table[k]).map fun r => { r with emission := r.emission.withoutPhase } := by
  simp [removePhases]

/-- Entry to FREE changes the tracker, the table and handed work only. -/
theorem enterFree_frame :
    ∃ h, s.enterFree.1 = { s with tracker := s.tracker.freed, table := s.removePhases.table, handed := h } := by
  unfold enterFree
  obtain ⟨h, e⟩ := notifyCadence_frame (s.removePhases.setTracker s.tracker.freed)
  refine ⟨h, ?_⟩
  show (s.removePhases.setTracker s.tracker.freed).notifyCadence = _
  rw [e]
  simp only [setTracker, removePhases]

/-- The end of a claim changes the tracker, the table, the changed-interferer set and handed work only. -/
theorem finishClaim_frame (g : Bool) (m : Marks) :
    ∃ t b c h, s.finishClaim g m = { s with tracker := t, table := b, changed := c, handed := h } := by
  unfold finishClaim
  cases g
  · obtain ⟨c, h, e⟩ := completeClaim_frame s m
    exact ⟨s.tracker, s.table, c, h, e⟩
  · simp only [↓reduceIte]
    unfold anchorNotice
    split
    · obtain ⟨c, h, e⟩ := completeClaim_frame (s.setTracker { s.tracker with
        anchor := some _, outliers := 0, anchorMisses := 0,
        anchorOffset := if s.tracker.predicting then (s.phaseAt _).getD 0 else 0 }) (m.join .none)
      exact ⟨_, s.table, c, h, e⟩
    · obtain ⟨h0, e0⟩ := enterFree_frame s
      rw [e0]
      obtain ⟨c, h, e⟩ := completeClaim_frame
        { s with tracker := s.tracker.freed, table := s.removePhases.table, handed := h0 } (m.join s.enterFree.2)
      exact ⟨_, _, c, h, e⟩

/-! ## Closing grants -/

theorem moveGuard_frame (l : Lane) (g : Nat) : ∃ x h, s.moveGuard l g = { s with grants := x, handed := h } := by
  unfold moveGuard
  split
  · exact ⟨s.grants, s.handed, rfl⟩
  · rw [hand_eq]; exact ⟨_, _, rfl⟩

theorem noticeDrain_frame (l : Lane) : ∃ h, s.noticeDrain l = { s with handed := h } := by
  unfold noticeDrain
  split
  · rw [hand_eq]; exact ⟨_, rfl⟩
  · exact ⟨s.handed, rfl⟩

theorem closeLane_frame (l : Lane) : ∃ x h, s.closeLane l = { s with grants := x, handed := h } := by
  unfold closeLane
  split
  · exact ⟨s.grants, s.handed, rfl⟩
  · split
    · exact ⟨s.grants, s.handed, rfl⟩
    · rw [hand_eq]; exact ⟨_, _, rfl⟩

theorem resetGuard_frame (l : Lane) : ∃ x h, s.resetGuard l = { s with grants := x, handed := h } := by
  unfold resetGuard
  split
  · exact ⟨s.grants, s.handed, rfl⟩
  · obtain ⟨x, h, e⟩ := moveGuard_frame (s.setOkRun l 0) l s.params.guardInitial
    exact ⟨x, h, e⟩

/-! ## The Plan Stacks -/

theorem sendOrder_frame (l : Lane) (w : SwitchRecord) (p : PlanState) (n : Nat) :
    ∃ x k h, s.sendOrder l w p n = { s with plans := x, links := k, handed := h } := by
  unfold sendOrder
  obtain ⟨k, h, e⟩ := sendOut_frame s .pls l (.switchOrder w.target s.params.switchCountdown)
  rw [e]; exact ⟨_, _, _, rfl⟩

theorem firstOrder_frame (l : Lane) : ∃ x k h, s.firstOrder l = { s with plans := x, links := k, handed := h } := by
  unfold firstOrder
  split
  · exact sendOrder_frame s l _ _ _
  · exact ⟨s.plans, s.links, s.handed, rfl⟩

theorem beginSwitch_frame (l : Lane) (w : SwitchRecord) :
    ∃ x k h, s.beginSwitch l w = { s with plans := x, links := k, handed := h } := by
  unfold beginSwitch
  simp only
  split
  · obtain ⟨x, k, h, e⟩ := firstOrder_frame
      (s.setPlan l { s.plans.get l with state := .draining, switch := some w, settle := none }) l
    exact ⟨x, k, h, e⟩
  · exact ⟨_, s.links, s.handed, rfl⟩

theorem underflow_frame (l : Lane) : ∃ x h, s.underflow l = { s with plans := x, handed := h } := by
  unfold underflow
  split <;> rw [request_eq, hand_eq]
  · exact ⟨s.plans, _, rfl⟩
  · exact ⟨_, _, rfl⟩

/-- A judgement changes plans, links and handed work only. -/
theorem judge_frame (l : Lane) : ∃ x k h, s.judge l = { s with plans := x, links := k, handed := h } := by
  unfold judge
  simp only
  split
  · exact ⟨s.plans, s.links, s.handed, rfl⟩
  · split
    · exact ⟨s.plans, s.links, s.handed, rfl⟩
    · split
      · exact ⟨_, s.links, s.handed, rfl⟩
      · split
        · exact ⟨_, s.links, s.handed, rfl⟩
        · unfold searchFallback
          simp only
          split
          · obtain ⟨x, h, e⟩ := underflow_frame (s.setPlan l _) l
            exact ⟨x, s.links, h, e⟩
          · split
            · obtain ⟨x, k, h, e⟩ := beginSwitch_frame (s.setPlan l _) l _
              exact ⟨x, k, h, e⟩
            · exact ⟨_, s.links, s.handed, rfl⟩

theorem judgeEligible_frame (l : Lane) :
    ∃ x k h, s.judgeEligible l = { s with plans := x, links := k, handed := h } := by
  unfold judgeEligible
  split
  · exact judge_frame s l
  · exact ⟨s.plans, s.links, s.handed, rfl⟩

/-- The judgements of a notice change plans, links and handed work only. -/
theorem judgeAll_frame : ∃ x k h, s.judgeAll = { s with plans := x, links := k, handed := h } := by
  unfold judgeAll
  obtain ⟨x0, k0, h0, e0⟩ := judgeEligible_frame s .l0
  obtain ⟨x1, k1, h1, e1⟩ := judgeEligible_frame (s.judgeEligible .l0) .l1
  obtain ⟨x2, k2, h2, e2⟩ := judgeEligible_frame ((s.judgeEligible .l0).judgeEligible .l1) .l2
  exact ⟨x2, k2, h2, by rw [e2, e1, e0]⟩

end State

/-! ## Transactions and events -/

theorem port?_of_ready (s : State) (h : s.ready = true) : s.port? = some s := by simp [State.port?, h]

theorem port?_of_answer (s : State) (x : Response) (h : s.ready = false) (ha : s.answer = some x) :
    s.port? = some (s.completed x) := by simp [State.port?, h, ha]

theorem port?_of_none (s : State) (h : s.ready = false) (ha : s.answer = none) : s.port? = none := by
  simp [State.port?, h, ha]

/-- With READY high the owner executes the command, and its answer is on its way. -/
theorem transact_of_ready (c : Instr) (s : State) (owner : State → State × Response) (h : s.ready = true) :
    transact c s owner = .next ((owner s).1.answering c (owner s).2) := by
  simp [transact, port?_of_ready s h]

/-- With a command in execution, a transaction of the next command first finds it completed. -/
theorem transact_of_answer (c : Instr) (s : State) (owner : State → State × Response) (x : Response)
    (h : s.ready = false) (ha : s.answer = some x) : transact c s owner = transact c (s.completed x) owner := by
  rw [transact_of_ready c (s.completed x) owner rfl]
  simp [transact, port?_of_answer s x h ha]

/-- While a reset keeps READY low the command is discarded. -/
theorem transact_of_none (c : Instr) (s : State) (owner : State → State × Response) (h : s.ready = false)
    (ha : s.answer = none) : transact c s owner = .next (s.carryNotReady (s.clocksOf c)) := by
  simp [transact, port?_of_none s h ha]

/-- An owner that refuses changes nothing. -/
theorem transact_refuse (c : Instr) (s : State) (owner : State → State × Response) (x : Status) (h : s.ready = true)
    (ho : owner s = refuse s x) : transact c s owner = .next (s.answering c ⟨x, []⟩) := by
  rw [transact_of_ready c s owner h, ho]; rfl

theorem event_of_running (s : State) (f : State → State) (h : s.resetN = true) : event s f = .next (f s) := by
  simp [event, h]

theorem event_of_reset (s : State) (f : State → State) (h : s.resetN = false) : event s f = .next s := by
  simp [event, h]

end Sys2Proof.Machine
end

