-- ==== Sys2Proof/Laws/PerInstr.lean ====
section
/-! SUPPORT. Statements made of every command as syntax, one lemma for each constructor of Instr. -/

namespace Sys2Proof.Laws

open Sys2Proof

/-- The body of a well-formed command fits the length byte of its frame (R169, R182). -/
def BodyFits.Statement (i : Instr) : Prop :=
  i.wellFormed = true → ∀ cb, i.codeAndBody = some cb → cb.2.length ≤ 255

theorem optByteBytes_length (x : Option Byte) : (optByteBytes x).length ≤ 2 := by
  cases x <;> simp [optByteBytes]

theorem optHalfBytes_length (x : Option Half) : (optHalfBytes x).length ≤ 3 := by
  cases x <;> simp [optHalfBytes, halfBytes]

theorem optSpanBytes_length (x : Option (Byte × Byte)) : (optSpanBytes x).length ≤ 3 := by
  cases x <;> simp [optSpanBytes]

theorem optAddressBytes_length (x : Option Address) : (optAddressBytes x).length ≤ 7 := by
  cases x <;> simp [optAddressBytes, addressBytes]

theorem givenHalfBytes_length (x : Given Half) : (givenHalfBytes x).length ≤ 3 := by
  cases x <;> simp [givenHalfBytes, halfBytes]

theorem givenAddressBytes_length (x : Given Address) : (givenAddressBytes x).length ≤ 7 := by
  cases x <;> simp [givenAddressBytes, addressBytes]

theorem evalTargetBytes_length (x : EvalTarget) : (evalTargetBytes x).length ≤ 3 := by
  cases x <;> simp [evalTargetBytes]

/-- The statement holds of every command; the lemmas below name it for each constructor. -/
theorem BodyFits.of_any (i : Instr) : BodyFits.Statement i := by
  intro w cb h
  cases i
  case place a =>
    have h1 := optByteBytes_length a.duty
    have h2 := optHalfBytes_length a.onDuration
    have h3 := optHalfBytes_length a.phase
    simp only [Instr.codeAndBody, Option.some.injEq] at h
    subst h; simp; omega
  case interfererAmend a =>
    have h1 := optSpanBytes_length a.span
    have h2 := optByteBytes_length a.level
    have h3 := optByteBytes_length a.kind
    have h4 := optByteBytes_length a.duty
    have h5 := optHalfBytes_length a.onDuration
    have h6 := givenHalfBytes_length a.phase
    simp only [Instr.codeAndBody, Option.some.injEq] at h
    subst h; simp; omega
  case admitStation a =>
    have h1 := optAddressBytes_length a.aliasAddr
    have h2 := optHalfBytes_length a.floor
    simp only [Instr.codeAndBody, Option.some.injEq] at h
    subst h; simp [addressBytes]; omega
  case stationAmend a =>
    have h1 := givenAddressBytes_length a.aliasAddr
    have h2 := optByteBytes_length a.bands
    have h3 := optByteBytes_length a.width
    have h4 := optByteBytes_length a.home
    have h5 := optHalfBytes_length a.floor
    simp only [Instr.codeAndBody, Option.some.injEq] at h
    subst h; simp; omega
  case eval lane target =>
    have h1 := evalTargetBytes_length target
    simp only [Instr.codeAndBody, Option.some.injEq] at h
    subst h; simp; omega
  case unknownCommand code body =>
    simp only [Instr.wellFormed, Bool.and_eq_true, decide_eq_true_eq] at w
    simp only [Instr.codeAndBody, Option.some.injEq] at h
    subst h; exact w.1
  all_goals
    first
      | (simp only [Instr.codeAndBody, reduceCtorEq] at h; done)
      | (simp only [Instr.codeAndBody, Option.some.injEq] at h; subst h; simp [wordBytes, addressBytes])

theorem BodyFits.powerOnReset : BodyFits.Statement .powerOnReset := BodyFits.of_any _
theorem BodyFits.resetRelease : BodyFits.Statement .resetRelease := BodyFits.of_any _
theorem BodyFits.tick : BodyFits.Statement .tick := BodyFits.of_any _
theorem BodyFits.softReset : BodyFits.Statement .softReset := BodyFits.of_any _
theorem BodyFits.softResetBlock (b : Block) : BodyFits.Statement (.softResetBlock b) := BodyFits.of_any _
theorem BodyFits.laneMessageArrival (l : Lane) (e : LineEvent) : BodyFits.Statement (.laneMessageArrival l e) := BodyFits.of_any _
theorem BodyFits.helloArrival (l : Lane) : BodyFits.Statement (.helloArrival l) := BodyFits.of_any _
theorem BodyFits.hello (l : Lane) : BodyFits.Statement (.hello l) := BodyFits.of_any _
theorem BodyFits.outboundSend (l : Lane) : BodyFits.Statement (.outboundSend l) := BodyFits.of_any _
theorem BodyFits.query : BodyFits.Statement .query := BodyFits.of_any _
theorem BodyFits.outcome (l : Lane) : BodyFits.Statement (.outcome l) := BodyFits.of_any _
theorem BodyFits.grantExpiry (l : Lane) (id : Byte) : BodyFits.Statement (.grantExpiry l id) := BodyFits.of_any _
theorem BodyFits.counterClaim (primary : Address) (result : ClaimResult) : BodyFits.Statement (.counterClaim primary result) := BodyFits.of_any _
theorem BodyFits.survey : BodyFits.Statement .survey := BodyFits.of_any _
theorem BodyFits.riseReport (slot : Slot) (rise : AirTime) : BodyFits.Statement (.riseReport slot rise) := BodyFits.of_any _
theorem BodyFits.anchorMissReport (slot : Slot) : BodyFits.Statement (.anchorMissReport slot) := BodyFits.of_any _
theorem BodyFits.holdoverExpiry : BodyFits.Statement .holdoverExpiry := BodyFits.of_any _
theorem BodyFits.cadenceStateNotice : BodyFits.Statement .cadenceStateNotice := BodyFits.of_any _
theorem BodyFits.changeNotice (slot : Slot) : BodyFits.Statement (.changeNotice slot) := BodyFits.of_any _
theorem BodyFits.guardChangeNotice (l : Lane) : BodyFits.Statement (.guardChangeNotice l) := BodyFits.of_any _
theorem BodyFits.modeNotice : BodyFits.Statement .modeNotice := BodyFits.of_any _
theorem BodyFits.drainNotice (l : Lane) : BodyFits.Statement (.drainNotice l) := BodyFits.of_any _
theorem BodyFits.switchDone (l : Lane) : BodyFits.Statement (.switchDone l) := BodyFits.of_any _
theorem BodyFits.switchFailed (l : Lane) : BodyFits.Statement (.switchFailed l) := BodyFits.of_any _
theorem BodyFits.switchTimeout (l : Lane) : BodyFits.Statement (.switchTimeout l) := BodyFits.of_any _
theorem BodyFits.settleTimerExpiry (l : Lane) : BodyFits.Statement (.settleTimerExpiry l) := BodyFits.of_any _
theorem BodyFits.steeringRequest (r : SteeringRequest) : BodyFits.Statement (.steeringRequest r) := BodyFits.of_any _
theorem BodyFits.steeringResult (r : SteeringResult) : BodyFits.Statement (.steeringResult r) := BodyFits.of_any _
theorem BodyFits.attentionSetRequest (f : Flag) : BodyFits.Statement (.attentionSetRequest f) := BodyFits.of_any _
theorem BodyFits.checkFailed (sdi : List Bool) : BodyFits.Statement (.checkFailed sdi) := BodyFits.of_any _
theorem BodyFits.notReady : BodyFits.Statement .notReady := BodyFits.of_any _
theorem BodyFits.unknownCommand (code : Byte) (body : List Byte) : BodyFits.Statement (.unknownCommand code body) := BodyFits.of_any _
theorem BodyFits.nop : BodyFits.Statement .nop := BodyFits.of_any _
theorem BodyFits.place (a : PlaceArgs) : BodyFits.Statement (.place a) := BodyFits.of_any _
theorem BodyFits.interfererAmend (a : InterfererAmendArgs) : BodyFits.Statement (.interfererAmend a) := BodyFits.of_any _
theorem BodyFits.pin (slot : Byte) : BodyFits.Statement (.pin slot) := BodyFits.of_any _
theorem BodyFits.unpin (slot : Byte) : BodyFits.Statement (.unpin slot) := BodyFits.of_any _
theorem BodyFits.retire (slot : Byte) : BodyFits.Statement (.retire slot) := BodyFits.of_any _
theorem BodyFits.interfererRead (slot : Byte) : BodyFits.Statement (.interfererRead slot) := BodyFits.of_any _
theorem BodyFits.scan : BodyFits.Statement .scan := BodyFits.of_any _
theorem BodyFits.admitStation (a : AdmitArgs) : BodyFits.Statement (.admitStation a) := BodyFits.of_any _
theorem BodyFits.stationAmend (a : StationAmendArgs) : BodyFits.Statement (.stationAmend a) := BodyFits.of_any _
theorem BodyFits.release (slot : Byte) : BodyFits.Statement (.release slot) := BodyFits.of_any _
theorem BodyFits.stationRead (slot : Byte) : BodyFits.Statement (.stationRead slot) := BodyFits.of_any _
theorem BodyFits.find (addr : Address) : BodyFits.Statement (.find addr) := BodyFits.of_any _
theorem BodyFits.push (lane : Byte) (plan : RawPlan) (tolerance : Byte) : BodyFits.Statement (.push lane plan tolerance) := BodyFits.of_any _
theorem BodyFits.pop (lane : Byte) : BodyFits.Statement (.pop lane) := BodyFits.of_any _
theorem BodyFits.continueLane (lane : Byte) : BodyFits.Statement (.continueLane lane) := BodyFits.of_any _
theorem BodyFits.readPlans (lane : Byte) : BodyFits.Statement (.readPlans lane) := BodyFits.of_any _
theorem BodyFits.eval (lane : Byte) (target : EvalTarget) : BodyFits.Statement (.eval lane target) := BodyFits.of_any _
theorem BodyFits.enable (lane : Byte) : BodyFits.Statement (.enable lane) := BodyFits.of_any _
theorem BodyFits.disable (lane : Byte) : BodyFits.Statement (.disable lane) := BodyFits.of_any _
theorem BodyFits.laneReset (lane : Byte) : BodyFits.Statement (.laneReset lane) := BodyFits.of_any _
theorem BodyFits.readLane (lane : Byte) : BodyFits.Statement (.readLane lane) := BodyFits.of_any _
theorem BodyFits.setParameter (number : Byte) (qualifier : Byte) (value : BitVec 32) : BodyFits.Statement (.setParameter number qualifier value) := BodyFits.of_any _
theorem BodyFits.getParameter (number : Byte) (qualifier : Byte) : BodyFits.Statement (.getParameter number qualifier) := BodyFits.of_any _
theorem BodyFits.setMode (mode : Byte) : BodyFits.Statement (.setMode mode) := BodyFits.of_any _
theorem BodyFits.status : BodyFits.Statement .status := BodyFits.of_any _
theorem BodyFits.readAttention : BodyFits.Statement .readAttention := BodyFits.of_any _
theorem BodyFits.clearAttention (flags : FlagBytes) : BodyFits.Statement (.clearAttention flags) := BodyFits.of_any _
theorem BodyFits.takeChanges : BodyFits.Statement .takeChanges := BodyFits.of_any _
theorem BodyFits.receptionRestartAfterIdleGap (l : Lane) : BodyFits.Statement (.receptionRestartAfterIdleGap l) := BodyFits.of_any _

end Sys2Proof.Laws
end

