-- ==== Sys2Proof/Laws/Surveys.lean ====
section
/-! SUPPORT. What the survey's operations give, said once in the words of Safety.lean: the cut between two readings, the
candidates of an observation and the choice among them, the slot a new record goes to, coverage, and a completed claim. -/

namespace Sys2Proof.Machine

open Sys2Proof

/-! ## Choices over the slots -/

/-- The slots before a slot, then the slot, then the rest. -/
theorem slots_split (k : Slot) :
    ∃ pre post, List.finRange 32 = pre ++ k :: post ∧ (∀ j ∈ pre, j < k) ∧ ∀ j ∈ post, k < j := by
  refine ⟨(List.finRange 32).take k, (List.finRange 32).drop (k + 1), ?_, ?_, ?_⟩ <;> revert k <;> decide +kernel

/-- A fold over the slots that keeps the better of the two, and the earlier of two equally good, ends with the one that is
better than every earlier one and not worse than any later one. -/
theorem foldl_best {β : Type} (worse : β → β → Prop) [DecidableRel worse] (c : Slot → Option β)
    (f : Option (Slot × β) → Slot → Option (Slot × β)) (skip : ∀ b k, c k = none → f b k = b)
    (first : ∀ k n, c k = some n → f none k = some (k, n))
    (next : ∀ j m k n, c k = some n → f (some (j, m)) k = if worse m n then some (k, n) else some (j, m)) :
    ((∀ k, c k = none) → (List.finRange 32).foldl f none = none) ∧
      ∀ k n, c k = some n → (∀ j m, c j = some m → j < k → worse m n) →
        (∀ j m, c j = some m → k < j → ¬worse n m) → (List.finRange 32).foldl f none = some (k, n) := by
  have found : ∀ (l : List Slot) (p : Slot → Prop) (b : Option (Slot × β)),
      (∀ x, b = some x → c x.1 = some x.2 ∧ p x.1) → (∀ j ∈ l, p j) →
      ∀ x, l.foldl f b = some x → c x.1 = some x.2 ∧ p x.1 := by
    intro l p
    induction l with
    | nil => intro b hb _; exact hb
    | cons y ys ih =>
      intro b hb hl
      refine ih _ ?_ fun j hj => hl j (List.mem_cons_of_mem _ hj)
      intro x hx
      cases hc : c y with
      | none => exact hb x (skip b y hc ▸ hx)
      | some m =>
        have new : some (y, m) = some x → c x.1 = some x.2 ∧ p x.1 := by
          intro e; cases e; exact ⟨hc, hl y (List.mem_cons_self ..)⟩
        cases b with
        | none => exact new (first y m hc ▸ hx)
        | some z =>
          rw [show z = (z.1, z.2) from rfl, next z.1 z.2 y m hc] at hx
          split at hx
          · exact new hx
          · exact hb x hx
  refine ⟨fun h => ?_, fun k n hk less more => ?_⟩
  · cases e : (List.finRange 32).foldl f none with
    | none => rfl
    | some x =>
      have := (found _ (fun _ => True) none (fun _ h => nomatch h) (fun _ _ => trivial) x e).1
      rw [h] at this; cases this
  · obtain ⟨pre, post, e, hpre, hpost⟩ := slots_split k
    have last : ∀ l : List Slot, (∀ j ∈ l, k < j) → l.foldl f (some (k, n)) = some (k, n) := by
      intro l
      induction l with
      | nil => intro _; rfl
      | cons y ys ih =>
        intro h
        have keep : f (some (k, n)) y = some (k, n) := by
          cases hc : c y with
          | none => exact skip _ _ hc
          | some m => rw [next k n y m hc, if_neg (more y m hc (h y (List.mem_cons_self ..)))]
        rw [List.foldl_cons, keep]
        exact ih fun j hj => h j (List.mem_cons_of_mem _ hj)
    rw [e, List.foldl_append, List.foldl_cons]
    have at_k : f (pre.foldl f none) k = some (k, n) := by
      cases hb : pre.foldl f none with
      | none => exact first k n hk
      | some x =>
        have := found pre (· < k) none (fun _ h => nomatch h) hpre x hb
        rw [show x = (x.1, x.2) from rfl, next x.1 x.2 k n hk, if_pos (less x.1 x.2 this.1 this.2)]
    rw [at_k]
    exact last post hpost

/-! ## Cuts, candidates and slots (R63, R67 to R69, R36, R37) -/

theorem joins_iff_continues (tol : Nat) (a b : Reading) : joins tol a b = true ↔ a.continues tol b := by
  unfold joins Reading.continues
  cases a.burst <;> cases b.burst <;> simp

theorem Tracker.predicting_iff (t : Tracker) : t.predicting = true ↔ t.state = .locked ∨ t.state = .holdover := by
  unfold Tracker.predicting
  cases t.state <;> simp

/-- The tracker's prediction is its reference and its period, while it is predicting. -/
theorem Tracker.prediction_iff (t : Tracker) (p : Prediction) :
    t.prediction = some p ↔
      (t.state = .locked ∨ t.state = .holdover) ∧ t.reference = some p.reference ∧ p.period = t.period := by
  rw [← t.predicting_iff]
  unfold Tracker.prediction
  cases t.predicting <;> cases t.reference <;> simp
  exact ⟨fun e => e ▸ ⟨rfl, rfl⟩, fun ⟨h, e⟩ => by cases p; simp_all⟩

theorem Intake.isTaken_eq_false (i : Intake) (k : Slot) : i.isTaken k = false ↔ ∀ x ∈ i.taken, x.1 ≠ k := by
  simp [Intake.isTaken]

theorem phaseTest_iff (p : Params) (t : Tracker) (o : Observation) (r : Interferer) :
    phaseTest p t o r = true ↔
      ∀ (φ length : Nat) (reference start : AirTime), (t.state = .locked ∨ t.state = .holdover) →
        t.reference = some reference → r.phase = some φ → o.burst = some (start, length) →
        let step := shortestStep t.period (φ % t.period : Nat) (onCircle t.period (signedDiff reference start))
        step ≤ p.matchTol ∧ -(p.matchTol : Int) ≤ step := by
  have around : ∀ (period φ x : Int), (x - φ) % period = (x - φ % period) % period := by simp
  unfold phaseTest Observation.phase
  cases r.phase with
  | none => simp
  | some φ =>
    cases o.burst with
    | none => cases t.prediction <;> simp
    | some b =>
      cases h : t.prediction with
      | none =>
        refine iff_of_true rfl fun _ _ reference _ locked held => ?_
        have := (t.prediction_iff ⟨reference, t.period⟩).2 ⟨locked, held, rfl⟩
        rw [h] at this; cases this
      | some q =>
        obtain ⟨locked, held, e⟩ := (t.prediction_iff q).1 h
        simp only [Prediction.phaseOf, e, Bool.and_eq_true, decide_eq_true_eq]
        have step : ∀ x : Int, shortestStep t.period φ x = shortestStep t.period (φ % t.period : Nat) x := by
          intro x; simp [shortestStep]
        rw [step]
        constructor
        · intro near φ' length reference start _ held' e1 e2
          cases e1; cases e2
          rw [held] at held'; cases held'
          exact ⟨near.2, near.1⟩
        · intro near
          have := near φ b.2 q.reference b.1 locked held rfl rfl
          exact ⟨this.2, this.1⟩

/-- A slot is a candidate with an overlap amount exactly when the rules make it one. -/
theorem Intake.candidate_iff (s : State) (i : Intake) (o : Observation) (k : Slot) (n : Nat) :
    i.candidate s o k = some n ↔ i.IsCandidate s.params s.tracker o k n := by
  unfold Intake.candidate Intake.IsCandidate
  cases i.table[k] with
  | none => simp
  | some r =>
    have half : ceilDiv (min r.span.count o.span.count) 2 ≤ r.span.overlap o.span ↔
        min r.span.count o.span.count ≤ 2 * r.span.overlap o.span := by
      unfold ceilDiv; omega
    have kind : compatible o r = true ↔ (o.guess = .cadenced ↔ r.isCadenced = true) := by
      unfold compatible
      cases o.guess <;> cases r.isCadenced <;> simp
    simp only [Option.some.injEq, exists_eq_left']
    rw [← phaseTest_iff, ← i.isTaken_eq_false, ← kind]
    simp only [Option.ite_none_right_eq_some, Bool.and_eq_true, decide_eq_true_eq, beq_iff_eq, Bool.not_eq_true', half,
      Option.some.injEq]
    exact ⟨fun ⟨⟨⟨⟨⟨a, b⟩, c⟩, d⟩, e⟩, f⟩ => ⟨a, f.symm, f ▸ b, c, d, e⟩,
      fun ⟨a, f, b, c, d, e⟩ => ⟨⟨⟨⟨⟨a, f ▸ b⟩, c⟩, d⟩, e⟩, f.symm⟩⟩

/-- The slot chosen for an observation: none with no candidate, else the one of greatest overlap and lowest number. -/
theorem Intake.choose_cases (s : State) (i : Intake) (o : Observation) :
    ((∀ k n, ¬i.IsCandidate s.params s.tracker o k n) → i.choose s o = none) ∧
      ∀ k n, i.IsCandidate s.params s.tracker o k n →
        (∀ j m, i.IsCandidate s.params s.tracker o j m → m < n ∨ (m = n ∧ k ≤ j)) → i.choose s o = some k := by
  have best := foldl_best (fun m n : Nat => m < n) (fun k => i.candidate s o k)
    (fun (best : Option (Slot × Nat)) k =>
      match i.candidate s o k, best with
      | none, _ => best
      | some n, none => some (k, n)
      | some n, some (j, m) => if m < n then some (k, n) else some (j, m))
    (fun b k h => by simp only [h]) (fun k n h => by simp only [h]) (fun j m k n h => by simp only [h])
  simp only [← i.candidate_iff s] at *
  refine ⟨fun h => ?_, fun k n hk most => ?_⟩
  · exact congrArg (Option.map (·.1)) (best.1 fun k => Option.eq_none_iff_forall_ne_some.2 (h k))
  · refine congrArg (Option.map (·.1)) (best.2 k n hk (fun j m hj lt => ?_) fun j m hj lt => ?_) <;>
      have := most j m hj <;> simp only [Fin.le_def, Fin.lt_def] at * <;> omega

/-- The slot a new record goes to while the table has an EMPTY one. -/
theorem Intake.empty_cases (i : Intake) :
    ((∀ k : Slot, i.table[k] ≠ none) → i.empty = none) ∧
      ∀ k : Slot, i.table[k] = none → (∀ j : Slot, j < k → i.table[j] ≠ none) → i.empty = some k := by
  have occupied : ∀ k : Slot, i.table[k] ≠ none → ¬(i.table[k]).isNone = true := fun k h e => h (Option.isNone_iff_eq_none.1 e)
  refine ⟨fun h => List.find?_eq_none.2 fun k _ => occupied k (h k), fun k hk low => ?_⟩
  obtain ⟨pre, post, e, hpre, _⟩ := slots_split k
  refine List.find?_eq_some_iff_append.2 ⟨Option.isNone_iff_eq_none.2 hk, pre, post, e, fun j hj => ?_⟩
  simpa only [Bool.not_eq_true', Bool.not_eq_true] using occupied j (low j (hpre j hj))

/-! ## Coverage (R72) -/

/-- Two circular intervals meet exactly when some copy of the first meets the second on the line. -/
theorem Arc.meets_iff {period : Nat} (h : 0 < period) (a b : Arc) :
    a.meets period b = true ↔ 0 < a.length ∧ 0 < b.length ∧
      ∃ j : Int, j * period + a.start < b.start + b.length ∧ b.start < j * period + a.start + a.length := by
  have pos : (0 : Int) < period := by exact_mod_cast h
  unfold Arc.meets onCircle
  simp only [Bool.and_eq_true, Bool.or_eq_true, decide_eq_true_eq, and_assoc]
  refine and_congr_right fun ha => and_congr_right fun hb => ⟨?_, ?_⟩
  · rintro (d | d)
    · refine ⟨(b.start - a.start) / period, ?_⟩
      have e := Int.emod_add_mul_ediv (b.start - a.start) period
      have n := Int.emod_nonneg (b.start - a.start) (Int.ne_of_gt pos)
      rw [Int.mul_comm] at e
      generalize (b.start - a.start) / (period : Int) * period = q at *
      omega
    · refine ⟨-((a.start - b.start) / period), ?_⟩
      have e := Int.emod_add_mul_ediv (a.start - b.start) period
      have n := Int.emod_nonneg (a.start - b.start) (Int.ne_of_gt pos)
      rw [Int.mul_comm] at e
      rw [Int.neg_mul]
      generalize (a.start - b.start) / (period : Int) * period = q at *
      omega
  · rintro ⟨j, d1, d2⟩
    have small : ∀ x k : Int, 0 ≤ x → (x + k * period) % period ≤ x := by
      intro x k hx
      rw [Int.add_mul_emod_self_right]
      have e := Int.emod_add_mul_ediv x period
      have := Int.mul_nonneg (Int.le_of_lt pos) (Int.ediv_nonneg hx (Int.le_of_lt pos))
      omega
    rcases Int.lt_or_le b.start (a.start + j * period) with c | c
    · have s := small (a.start + j * period - b.start) (-j) (by omega)
      rw [Int.neg_mul, show a.start + j * period - b.start + -(j * period) = a.start - b.start by omega] at s
      omega
    · have s := small (b.start - (a.start + j * period)) j (by omega)
      rw [show b.start - (a.start + j * period) + j * period = b.start - a.start by omega] at s
      omega

/-- The intake's test of coverage is the rule's. -/
theorem covered_iff_Covers {t : Tracker} (h : t.Ok) (v : Survey) (r : Interferer) :
    covered t v r = true ↔ v.Covers t r := by
  unfold covered Survey.Covers
  simp only [Bool.and_eq_true, List.any_eq_true, decide_eq_true_eq]
  refine and_congr Iff.rfl ?_
  cases hp : t.prediction with
  | none =>
    refine iff_of_true rfl fun reference _ _ locked held => ?_
    have := (t.prediction_iff ⟨reference, t.period⟩).2 ⟨locked, held, rfl⟩
    rw [hp] at this; cases this
  | some q =>
    obtain ⟨locked, held, e⟩ := (t.prediction_iff q).1 hp
    have pos : 0 < t.period := by have := h.periodLow; omega
    have on : ∀ o φ, r.emission = .cadenced o (some φ) → r.onArc 0 = some ⟨φ, o⟩ := by
      intro o φ he; simp [Interferer.onArc, he]
    have off : (∀ o φ, r.emission ≠ .cadenced o (some φ)) → r.onArc 0 = none := by
      intro he
      unfold Interferer.onArc
      split
      · rename_i h; exact absurd h (he _ _)
      all_goals rfl
    by_cases phased : ∃ o φ, r.emission = .cadenced o (some φ)
    · obtain ⟨o, φ, he⟩ := phased
      simp only [on o φ he, e, Arc.meets_iff pos]
      constructor
      · intro d reference o' φ' _ held' he'
        rw [held] at held'; cases held'
        rw [he] at he'; cases he'
        exact d
      · exact fun d => d q.reference o φ locked held he
    · have he : ∀ o φ, r.emission ≠ .cadenced o (some φ) := fun o φ h => phased ⟨o, φ, h⟩
      rw [off he]
      exact iff_of_true rfl fun _ o φ _ _ h => absurd h (he o φ)

/-! ## The claim (R56, R57, R61) -/

/-- Taking an observation reads the parameters and the tracker, and of the table only what the intake holds. -/
theorem Intake.take_congr {s t : State} (params : t.params = s.params) (tracker : t.tracker = s.tracker) :
    Intake.take t = Intake.take s := by
  funext i o
  unfold Intake.take Intake.choose Intake.create Intake.candidate
  rw [params, tracker]

/-- Charging misses reads the parameters and the tracker, and of the table only what the intake holds. -/
theorem Intake.charge_congr {s t : State} (v : Survey) (params : t.params = s.params) (tracker : t.tracker = s.tracker) :
    Intake.charge t v = Intake.charge s v := by
  funext i k
  unfold Intake.charge
  rw [params, tracker]

namespace State

variable (s : State)

theorem requestFull_of_none (h : s.resets = []) (n : Nat) :
    s.requestFull n = { s with handed := s.handed ++ List.replicate n (.attentionSetRequest .tableFull) } := by
  induction n generalizing s with
  | zero => simp [requestFull]
  | succ n ih =>
    unfold requestFull
    rw [request_of_none s h]
    refine (ih _ (by exact h)).trans ?_
    simp [List.replicate_succ]

theorem handNotices_of_none (h : s.resets = []) (noticed : BitVec 32) :
    s.handNotices noticed = { s with
      handed := s.handed ++ ((List.finRange 32).filter fun k => noticed.getLsbD k.val).map .changeNotice } := by
  unfold handNotices
  generalize List.finRange 32 = ks
  induction ks generalizing s with
  | nil => simp
  | cons k ks ih =>
    rw [List.foldl_cons]
    split
    · rename_i on
      rw [hand_of_none s h, List.filter_cons, if_pos on]
      refine (ih _ (by exact h)).trans ?_
      simp
    · rename_i off
      rw [List.filter_cons, if_neg off]
      exact ih s h

/-- With no soft reset in progress a claim completes with its entries in the set and its notices in slot order. -/
theorem completeClaim_of_none (h : s.resets = []) (m : Marks) :
    s.completeClaim m = { s with
      changed := s.changed ||| m.entered
      handed := s.handed ++ ((List.finRange 32).filter fun k => m.noticed.getLsbD k.val).map .changeNotice } := by
  unfold completeClaim
  simp only [crossesReset_of_none s h]
  exact handNotices_of_none { s with changed := s.changed ||| m.entered } h m.noticed

end State

end Sys2Proof.Machine
end

