-- ==== Sys2Proof/Laws/Ticks.lean ====
section
/-! SUPPORT. What the events taken on the way to a TICK can change, and where the air time then stands. -/

namespace Sys2Proof.Machine

open Sys2Proof

namespace State

variable (s : State)

/-- The counters and the edge guard of an outcome change grants and handed work only. -/
theorem settleOutcome_frame (l : Lane) (x : Grant) (r : Outcome) :
    ∃ g h, s.settleOutcome l x r = { s with grants := g, handed := h } := by
  have claim : ∀ c, ∃ h, s.claimFor x c = { s with handed := h } := by
    intro c
    unfold claimFor
    split
    · rw [hand_eq]; exact ⟨_, rfl⟩
    · exact ⟨s.handed, rfl⟩
    · exact ⟨s.handed, rfl⟩
  unfold settleOutcome
  split
  · obtain ⟨h, e⟩ := claim .ok
    rw [e]
    unfold creditLane
    simp only
    split
    · obtain ⟨g, k, e⟩ := moveGuard_frame (State.setOkRun { s with handed := h } l 0) l _
      exact ⟨g, k, e⟩
    · exact ⟨_, h, rfl⟩
  · obtain ⟨h, e⟩ := claim .lost
    rw [e]
    unfold chargeLane
    simp only
    split
    · obtain ⟨g, k, e⟩ := moveGuard_frame (State.setOkRun { s with handed := h } l 0) l _
      exact ⟨g, k, e⟩
    · exact ⟨_, h, rfl⟩
  · exact ⟨s.grants, s.handed, rfl⟩

/-- An OUTCOME changes grants, links and handed work only. -/
theorem takeOutcome_frame (l : Lane) : ∃ g k h, s.takeOutcome l = { s with grants := g, links := k, handed := h } := by
  have sent : ∀ (t : State) m, (∃ g k h, t = { s with grants := g, links := k, handed := h }) →
      ∃ g k h, t.sendOut .gre l m = { s with grants := g, links := k, handed := h } := by
    rintro t m ⟨g, k, h, rfl⟩
    obtain ⟨k', h', e⟩ := sendOut_frame { s with grants := g, links := k, handed := h } .gre l m
    exact ⟨g, k', h', e⟩
  have emptied : ∃ g k h, s.emptyHolder l = { s with grants := g, links := k, handed := h } :=
    ⟨s.grants, _, s.handed, rfl⟩
  unfold takeOutcome
  simp only
  split
  · exact emptied
  · split
    · unfold applyOutcome
      split
      · exact sent _ _ emptied
      · obtain ⟨g, k, h, e⟩ := sent ((s.emptyHolder l).removeGrant l _ _ _) (.outcomeAnswer .accepted _)
          ⟨_, _, s.handed, rfl⟩
        rw [e]
        obtain ⟨g', h', e'⟩ := settleOutcome_frame { s with grants := g, links := k, handed := h } l _ _
        rw [e']
        obtain ⟨h'', e''⟩ := noticeDrain_frame { s with grants := g', links := k, handed := h' } l
        exact ⟨g', k, h'', e''⟩
    · exact sent _ _ emptied

/-- An event taken before time moves on changes the tracker, the table and its set, plans, grants, links and handed work
only. -/
theorem takePrompt_frame (p : Prompt) :
    ∃ t b c x g k h, s.takePrompt p =
      { s with tracker := t, table := b, changed := c, plans := x, grants := g, links := k, handed := h } := by
  have same : ∃ t b c x g k h, s =
      { s with tracker := t, table := b, changed := c, plans := x, grants := g, links := k, handed := h } :=
    ⟨s.tracker, s.table, s.changed, s.plans, s.grants, s.links, s.handed, rfl⟩
  unfold takePrompt
  split
  · unfold expireHoldover
    simp only
    split
    · obtain ⟨h, e⟩ := enterFree_frame s
      rw [e]
      obtain ⟨c, h', e'⟩ := completeClaim_frame
        { s with tracker := s.tracker.freed, table := s.removePhases.table, handed := h } s.enterFree.2
      exact ⟨_, _, c, s.plans, s.grants, s.links, h', e'⟩
    · exact same
  · unfold expireGrant
    split
    · exact same
    · split
      · obtain ⟨h, e⟩ := noticeDrain_frame (s.removeGrant _ _ .expired none) _
        exact ⟨s.tracker, s.table, s.changed, s.plans, _, s.links, h, e⟩
      · exact same
  · unfold expireSwitch
    simp only
    split
    · split
      · exact same
      · split
        · obtain ⟨x, k, h, e⟩ := sendOrder_frame s _ _ .unsynced _
          exact ⟨s.tracker, s.table, s.changed, x, s.grants, k, h, e⟩
        · rw [request_eq, request_eq, hand_eq, hand_eq]
          exact ⟨s.tracker, s.table, s.changed, _, s.grants, s.links, _, rfl⟩
    · exact same
  · unfold expireSettle
    simp only
    split
    · obtain ⟨x, k, h, e⟩ := judgeEligible_frame (s.setPlan _ { s.plans.get _ with settle := none }) _
      exact ⟨s.tracker, s.table, s.changed, x, s.grants, k, h, e⟩
    · exact same
  · split
    · obtain ⟨g, k, h, e⟩ := takeOutcome_frame s _
      exact ⟨s.tracker, s.table, s.changed, s.plans, g, k, h, e⟩
    · exact same

@[simp] theorem takePrompt_airTime (p : Prompt) : (s.takePrompt p).airTime = s.airTime := by
  obtain ⟨_, _, _, _, _, _, _, e⟩ := takePrompt_frame s p
  rw [e]

@[simp] theorem chose_airTime (n : Nat) : (s.chose n).airTime = s.airTime := by
  unfold chose; split <;> rfl

@[simp] theorem pass_airTime (n : Nat) : (s.pass n).airTime = s.airTime + BitVec.ofNat 32 n := rfl

/-- Time passes no further than the next multiple of 1,024 at once. -/
theorem quiet_le : s.quiet ≤ tickDistance s.airTime := by
  have : ∀ (ds : List AirTime) (n : Nat), ds.foldl (fun n d => min n (d - s.airTime).toNat) n ≤ n := by
    intro ds
    induction ds with
    | nil => intro n; exact Nat.le_refl n
    | cons d ds ih => intro n; exact Nat.le_trans (ih _) (Nat.min_le_left _ _)
  exact this _ _

/-- Less than the way to the next multiple leaves the rest of it. -/
theorem tickDistance_add (t : AirTime) (n : Nat) (h : n < tickDistance t) :
    tickDistance (t + BitVec.ofNat 32 n) = tickDistance t - n := by
  simp only [tickDistance, Config.tickPeriod, BitVec.toNat_add, BitVec.toNat_ofNat] at h ⊢
  omega

/-- TICK lands on the next multiple of 1,024, whatever was taken on the way. -/
theorem toNextTick_airTime (n : Nat) :
    (s.toNextTick n).airTime = s.airTime + BitVec.ofNat 32 (tickDistance s.airTime) := by
  induction n generalizing s with
  | zero => rfl
  | succ n ih =>
    unfold toNextTick
    split
    · split
      · rfl
      · rename_i h
        have hlt : s.quiet < tickDistance s.airTime := Nat.lt_of_le_of_ne s.quiet_le h
        rw [ih, pass_airTime, tickDistance_add _ _ hlt, BitVec.add_assoc, ← BitVec.ofNat_add]
        congr 2
        omega
    · rw [ih]; simp

end State

end Sys2Proof.Machine
end

