-- ==== Sys2Proof/Tests/Slice0.lean ====
section
/-! SUPPORT. Tests on fixed values: ill-formed terms that the check refuses, worked examples of the spec, and for each
statement with hypotheses a state and operands that meet them, with what the command answers there. -/

/-- What the transaction last carried will answer: the answer in execution, or the pending response with none. -/
def Sys2Proof.Machine.State.answered (s : Sys2Proof.Machine.State) : Sys2Proof.Machine.Response :=
  s.answer.getD s.response

namespace Sys2Proof.Tests

open Sys2Proof Sys2Proof.Machine

/-! ## Terms that the check refuses -/

/-- Lean adds a type only when the proofs above are checked, which bounds how many it checks at one time. -/
inductive Checkpoint1 where
  | reached

theorem test_arrival_without_bytes_is_ill_formed :
    (Instr.laneMessageArrival .l0 (.ends [])).wellFormed = false := by decide

theorem test_arrival_longer_than_one_message_is_ill_formed :
    (Instr.laneMessageArrival .l0 (.ends [6, 0, 1, 2])).wellFormed = false := by decide

theorem test_check_failed_with_a_good_frame_is_ill_formed :
    (Instr.checkFailed (bitsOfBytes (frameBytes 0x53 []))).wellFormed = false := by decide +kernel

theorem test_unknown_command_that_spells_one_is_ill_formed :
    (Instr.unknownCommand 0x53 []).wellFormed = false := by decide +kernel

theorem test_unknown_command_with_a_long_body_is_ill_formed :
    (Instr.unknownCommand 0xFF (List.replicate 256 0)).wellFormed = false := by decide +kernel

theorem test_arrivals_of_one_message_are_well_formed :
    (Instr.laneMessageArrival .l0 (.ends [6])).wellFormed = true ∧
      (Instr.laneMessageArrival .l0 (.ends [6, 0, 1])).wellFormed = true ∧
      (Instr.checkFailed (bitsOfBytes [0x53, 0, 0])).wellFormed = true ∧ (Instr.unknownCommand 0x53 [1]).wellFormed = true := by
  decide +kernel

/-! ## Worked examples of the spec -/

/-- Lean adds a type only when the proofs above are checked, which bounds how many it checks at one time. -/
inductive Checkpoint2 where
  | reached

/-- Table 1-5. -/
theorem test_air_time_comparison :
    before 100 200 = true ∧ signedDiff 4294967000 500 = 796 ∧ before 1000000000 3000000000 = true ∧
      signedDiff 3000000000 1000000000 = -2000000000 ∧ before 0 2147483648 = false ∧
      laterOf 0 2147483648 = 0 := by decide +kernel

/-- Table 1-6. -/
theorem test_windows :
    (Window.mk 1000 300).intersects ⟨1200, 500⟩ = true ∧ (Window.mk 1000 300).intersects ⟨1300, 500⟩ = false ∧
      (Window.mk 4294967200 200).intersects ⟨50, 10⟩ = true ∧ (Window.mk 1000 0).intersects ⟨900, 500⟩ = false ∧
      ((Window.mk 1000 300).guarded 150).intersects ⟨1400, 100⟩ = true := by decide +kernel

/-- Table 1-7. -/
theorem test_circle :
    unionLength 16667 [⟨-300, 8900⟩, ⟨8000, 1000⟩] = 9300 ∧ shortestStep 16667 16500 200 = 367 ∧
      shortestStep 16667 200 16500 = -367 ∧ shortestStep 16667 0 8334 = -8333 := by decide +kernel

/-- Table 1-3. -/
theorem test_overlap :
    (Span.mk 5 4).overlap ⟨7, 6⟩ = 2 ∧ (Span.mk 10 4).overlap ⟨7, 9⟩ = 4 ∧ (Span.mk 0 4).overlap ⟨4, 4⟩ = 0 ∧
      (Span.mk 20 1).overlap ⟨18, 4⟩ = 1 := by decide

/-- Table 3-3. -/
theorem test_phase_adjustment :
    movedPhase 16667 (some 35) (some 95) = some 50 ∧ movedPhase 16667 (some 35) (some 16640) = some 20 ∧
      movedPhase 16667 (some 2) (some 16647) = some 16664 ∧ movedPhase 16667 (some 100) (some 103) = some 100 := by
  decide +kernel

/-- Table 7-7. -/
theorem test_grant_ids :
    (GrantLane.takeId { GrantLane.reset 300 with nextId := 255 }) = 255 ∧
      (GrantLane.takeId { GrantLane.reset 300 with
        nextId := 255
        outstanding := [⟨255, .group, ⟨0, .w20⟩, 0, 16, 0, ⟨false, false, false, false, false, false⟩, 0⟩] }) = 0 := by
  decide

/-- R99: an oven of on-duration 9,000 with guard 300 and P 20,000 contributes 31. -/
theorem test_unpredicted_contribution :
    (Interferer.mk (.cadenced 9000 none) ⟨0, 4⟩ 30 4 0 .confirmed .learned).contribution false 20000 300 = 31 := by
  decide

/-- R155: a message with its check byte passes, and one with a bit changed fails. -/
theorem test_check_byte :
    passesCheck (withCheck [0x01, 0x01, 0x55]) = true ∧ checkByte [0x31, 0x32, 0x33, 0x34, 0x35, 0x36, 0x37, 0x38, 0x39] = 0xDF ∧
      passesCheck [0x01, 0x01, 0x54, checkByte [0x01, 0x01, 0x55]] = false := by decide +kernel

/-- R182: frames written out from the command codes, and a frame cut short. -/
theorem test_transactions_spell_commands :
    let spelt := fun (bytes : List Byte) => decodeTransaction (bitsOfBytes bytes)
    spelt (withCheck [0x53, 0]) = .status ∧ spelt (withCheck [0x30, 4, 1, 8, 40, 32]) = .push 1 ⟨8, 40⟩ 32 ∧
      spelt (withCheck [0x24, 6, 0x02, 0, 0, 0, 0, 0x2A]) = .find 0x02000000002A ∧
      spelt (withCheck [0x12, 2, 3, 3]) = .unknownCommand 0x12 [3, 3] ∧
      spelt (withCheck [0x53, 0] ++ [0xFF, 0x01]) = .status ∧
      spelt [0x53, 0] = .checkFailed (bitsOfBytes [0x53, 0]) ∧
      decodeTransaction ((bitsOfBytes (withCheck [0x53, 0])).take 23) =
        .checkFailed ((bitsOfBytes (withCheck [0x53, 0])).take 23) := by decide +kernel

/-- R167: a STATUS frame's 24 clocks carry the first three bytes of the response; what is not clocked out is lost, and 0
follows the last byte. -/
theorem test_response_is_shifted_out :
    (Response.mk .done []).shiftOut 30 = bitsOfBytes (withCheck [0, 0]) ++ List.replicate 6 false ∧
      (Response.mk .badArgument [0x80]).shiftOut 17 = bitsOfBytes [0x03, 0x01] ++ [true] := by decide +kernel

theorem test_table_words_spell_nothing : ∀ n w, decodeTableWord n w = none := fun _ _ => rfl

/-! ## States for the witnesses -/

/-- The state a command answers with. -/
def result (r : Result) : State :=
  match r with
  | .next s => s
  | .fault _ => State.reset
  | .refused _ => State.reset

def entry (primary tolerance : Nat) : PlanEntry := ⟨⟨primary, .w20⟩, tolerance, .valid⟩

/-- A lane's plan state with a stack. -/
def lanePlan (p : PlanState) (stack : List PlanEntry) : PlanLane := { PlanLane.reset .l with state := p, stack := stack }

def noFlags : GoFlags := ⟨false, false, false, false, false, false⟩

def aGrant (id : Byte) : Grant := ⟨id, .primary 2, ⟨0, .w20⟩, 1000, 500, 300, noFlags, 3500⟩

/-- After reset, with every slice just heard. -/
def heard : State := { State.reset with coverage := Vector.replicate 48 0 }

/-- Lane 0 has a plan state and a stack. -/
def onLane (p : PlanState) (stack : List PlanEntry) : State := heard.setPlan .l0 (lanePlan p stack)

/-- Lane 0's holder holds a message. -/
def holding (s : State) (k : InKind) (body : List Byte) : State :=
  s.setLink .l0 { s.links.get .l0 with holder := some ⟨k, body, 0⟩ }

/-- Lane 0 has outstanding grants. -/
def granting (s : State) (xs : List Grant) : State := s.setGrant .l0 { s.grants.get .l0 with outstanding := xs }

/-- Lane 0 is between plans with a switch record and a switch timeout. -/
def switching (p : PlanState) (stack : List PlanEntry) (w : SwitchRecord) : State :=
  heard.setPlan .l0 { lanePlan p stack with switch := some w, timeout := some 0 }

/-- An oven and a steady neighbour. -/
def oven (phase : Option Nat) : Interferer := ⟨.cadenced 9000 phase, ⟨0, 4⟩, 30, 4, 0, .confirmed, .learned⟩

def neighbour : Interferer := ⟨.steady 60, ⟨0, 4⟩, 30, 4, 0, .confirmed, .learned⟩

/-- The tracker LOCKED on slot 0, with the reference at air time 0 and P 20,000. -/
def locked : Tracker :=
  { Tracker.reset with state := .locked, reference := some 0, anchor := some 0, holdover := some 10000000 }

/-- The tracker LOCKED on an oven in slot 0 that is on from 12,000 to 21,000 of each period. -/
def predicted (s : State) : State := { s with tracker := locked, table := s.table.set 0 (some (oven (some 12000))) }

def aStation : Station := ⟨2, some 4, .both, .w40, .l0, 200, 0, 0, .normal, none⟩

/-- Slot 1 is ADMITTED. -/
def withStation1 (s : State) (r : Station) : State := s.setStation 0 (some r)

/-- A QUERY for an address and an airtime. -/
def queryBody (a : Address) (d : Half) : List Byte := addressBytes a ++ halfBytes d

/-! ## What the properties of Safety.lean say of these states -/

/-- Lean adds a type only when the proofs above are checked, which bounds how many it checks at one time. -/
inductive Checkpoint3 where
  | reached

theorem default_params_ok : Params.default.Ok := ⟨by intro n; cases n <;> decide, rfl⟩

theorem locked_ok : locked.Ok := by constructor <;> decide

theorem reset_tracker_ok : Tracker.reset.Ok := by constructor <;> decide

theorem oven_ok : (oven (some 12000)).Ok where
  span := by decide
  level := by decide
  confidence := by decide
  misses := by decide
  duty := by intro d h; cases h
  onDuration := by intro o h; cases h; decide
  phase := by intro φ h; cases h; decide
  cadencedBand := by intro _; rfl

theorem station_ok : aStation.Ok where
  individual := by decide
  aliasIndividual := by intro a h; cases h; decide
  aliasDiffers := by decide
  floor := by decide
  lossStreak := by decide
  okRun := by decide
  advice := by intro h; cases h

theorem predicted_table_ok : (predicted heard).TableOk := by
  intro k r h
  have h' : ((Vector.replicate 32 (none : Option Interferer)).set 0 (some (oven (some 12000))))[k] = some r := h
  rcases Nat.eq_zero_or_pos k.val with z | z
  · have : k = 0 := Fin.ext z
    subst this
    simp at h'
    exact h' ▸ oven_ok
  · simp [show ¬(0 = k.val) by omega] at h'

theorem one_station_ok (s : State) (hs : s.stations = Vector.replicate 63 none) : (withStation1 s aStation).StationsOk := by
  have key : ∀ (k : StationSlot) (r : Station), (withStation1 s aStation).stations[k] = some r → k = 0 ∧ r = aStation := by
    intro k r h
    have h' : ((Vector.replicate 63 (none : Option Station)).set 0 (some aStation))[k] = some r := by
      rw [← hs]; exact h
    rcases Nat.eq_zero_or_pos k.val with z | z
    · have : k = 0 := Fin.ext z
      subst this
      simp at h'
      exact ⟨rfl, h'.symm⟩
    · simp [show ¬(0 = k.val) by omega] at h'
  exact ⟨fun k r h => (key k r h).2 ▸ station_ok, fun j k q r _ hj hk _ _ => (key j q hj).1.trans (key k r hk).1.symm⟩

theorem no_station_ok (s : State) (hs : s.stations = Vector.replicate 63 none) : s.StationsOk := by
  have key : ∀ (k : StationSlot) (r : Station), s.stations[k] ≠ some r := by intro k r h; simp [hs] at h
  exact ⟨fun k r h => absurd h (key k r), fun j k q r _ hj _ _ _ => absurd hj (key j q)⟩

/-! ## Witnesses: the machine as a whole -/

/-- Lean adds a type only when the proofs above are checked, which bounds how many it checks at one time. -/
inductive Checkpoint4 where
  | reached

theorem test_meets_TransactionSpellsItsCommand :
    let amend := Instr.interfererAmend ⟨3, some (0, 4), none, none, none, some 500, .remove⟩
    (Instr.unknownCommand 0xFF [1]).wellFormed = true ∧ (encodeTransaction (.unknownCommand 0xFF [1])).isSome = true ∧
      amend.wellFormed = true ∧ (encodeTransaction amend).isSome = true ∧
      (encodeTransaction amend).map (fun bits => decodeTransaction (bits ++ [true, false, true])) = some amend := by
  decide +kernel

theorem test_meets_StepKeepsParametersAndGuards :
    ∃ s t : State, s.params.Ok ∧ s.GuardsOk ∧ step s = .next t ∧ (t.grants.get .l0).edgeGuard = 300 :=
  ⟨{ heard with pending := [.setParameter 14 0 300] }, _, default_params_ok, by intro l; cases l <;> decide, rfl,
    by decide +kernel⟩

theorem test_meets_StepKeepsStationAddressesApart :
    ∃ s t : State, s.StationsOk ∧ step s = .next t ∧ t.stations[(0 : StationSlot)] = none :=
  ⟨withStation1 { heard with pending := [.release 1] } aStation, _, one_station_ok _ rfl, rfl, by decide +kernel⟩

theorem test_meets_StepKeepsPlanStacks :
    ∃ s t : State, s.params.Ok ∧ s.PlansOk ∧ step s = .next t ∧ (t.plans.get .l0).stack = [] :=
  ⟨{ (onLane .disabled [entry 0 10]) with pending := [.pop 0] }, _, default_params_ok,
    fun l => by constructor <;> first | (cases l <;> decide) | (intro w h; cases l <;> cases h), rfl, by decide +kernel⟩

theorem test_meets_StepKeepsGrantsApart :
    ∃ s t : State, s.params.Ok ∧ s.tracker.Ok ∧ s.GrantsOk ∧ step s = .next t ∧ t.queryLane = none :=
  ⟨{ holding (granting (onLane .settled [entry 0 10]) [aGrant 5]) .query (queryBody 2 100) with pending := [.query] }, _,
    default_params_ok, reset_tracker_ok,
    fun l => by constructor <;> cases l <;> decide, rfl, by decide +kernel⟩

/-- RETIRE of the anchor; and soft resets in both orders of the tracker and the table, with a phase in the table as the tracker
resets and an anchor in the tracker as the table does. -/
theorem test_meets_StepKeepsAnchorPhasesAndDisabledLanes :
    (let s := { predicted heard with ready := false, resets := [.ctk, .ift] }
     let after := fun (blocks : List Block) => s.afterCommands (blocks.map .softResetBlock)
     (after [.ctk]).tracker = Tracker.reset ∧ ((after [.ctk]).table[(0 : Slot)]).map (·.phase) = some none ∧
      (after [.ctk]).handed = [] ∧ (after [.ctk]).changed = 0 ∧ (after [.ift]).tracker = Tracker.reset ∧
      (after [.ift]).handed = [] ∧ (after [.ift, .ctk]).tracker = (after [.ctk, .ift]).tracker) ∧
    ∃ s t : State, s.resets = [] ∧ s.tracker.Ok ∧ s.CadenceOk ∧
      (∀ l : Lane, (s.plans.get l).state = .disabled → (s.grants.get l).outstanding = []) ∧ step s = .next t ∧
      t.tracker.anchor = none :=
  ⟨by decide +kernel, { predicted heard with pending := [.retire 0] }, _, rfl, locked_ok,
    ⟨fun k h => (by cases h; decide +kernel), fun h => absurd h (by decide)⟩, by intro l; cases l <;> decide, rfl,
    by decide +kernel⟩

theorem test_meets_StepKeepsTableRanges :
    ∃ s t : State, step s = .next t ∧ s.params.Ok ∧ s.tracker.Ok ∧ s.TableOk ∧ s.CoverageOk ∧ s.LinksOk ∧ s.AdvisedOk :=
  ⟨{ predicted heard with pending := [.pin 0] }, _, rfl, default_params_ok, locked_ok, predicted_table_ok,
    by intro i; simp [predicted, heard], fun l => by constructor <;> cases l <;> decide,
    rfl⟩

/-! ## Witnesses: reset and time -/

/-- Lean adds a type only when the proofs above are checked, which bounds how many it checks at one time. -/
inductive Checkpoint5 where
  | reached

theorem test_meets_PowerOnAndRelease :
    State.powerOn.resetN = false ∧ result (exec .resetRelease State.powerOn) = State.reset := by decide +kernel

/-- A quiet microsecond and RESET_N low; a held OUTCOME, a grant and the holdover timer due; TICK with nothing running, with
a deadline past the multiple, and with one before it. -/
theorem test_meets_TimePassesAndTicks :
    let waiting := holding (granting heard [aGrant 5]) .outcome ([5, 0] ++ halfBytes 400)
    let due := { granting heard [aGrant 5] with airTime := 3500 }
    let late := { granting heard [aGrant 5] with airTime := 3000 }
    let soon := { granting heard [aGrant 5] with airTime := 2048 }
    State.powerOn.pending = [] ∧ State.powerOn.resetN = false ∧ (result (step State.powerOn)) = State.powerOn ∧
      (State.reset.pending = [] ∧ State.reset.resetN = true ∧ State.reset.readyEvents = [] ∧ State.reset.answer = none) ∧
      (result (step State.reset)).airTime = 1 ∧ result (step waiting) = result (exec (.outcome .l0) waiting) ∧
      atOrAfter due.airTime (aGrant 5).expiry = true ∧ result (step due) = result (exec (.grantExpiry .l0 5) due) ∧
      result (step { predicted heard with airTime := 10000000 }) =
        result (exec .holdoverExpiry { predicted heard with airTime := 10000000 }) ∧
      (result (exec .tick { State.reset with airTime := 4294967295 })).airTime = 0 ∧
      soon.prompts = [] ∧ soon.deadlines = [3500] ∧ result (exec .tick soon) = { soon with airTime := 3072, tick := true } ∧
      (result (exec .tick { late with airTime := 3072 })).airTime = 4096 ∧
      (3500 - late.airTime).toNat = 500 ∧ State.tickDistance 3072 = 1024 ∧
      ((result (exec .tick { late with airTime := 3072 })).grants.get .l0).lastClosure = some ⟨5, .expired, none⟩ ∧
      (result (exec .tick { late with airTime := 3072 })).handed = [.drainNotice .l0] := by decide +kernel

/-- SOFT_RESET, a block that was handed a reset and one that was not, the last block, a link in the middle of a message, and
the whole reset with the blocks in reverse order. -/
theorem test_meets_SoftResetIsTakenByEveryBlock :
    let started := result (exec .softReset (predicted heard))
    let receiving := { heard.setLink .l0 { heard.links.get .l0 with reception := .inProgress true true } with
      ready := false, resets := [.lli] }
    let finished := (predicted heard).afterCommands
      (.softReset :: [Block.lli, .gre, .pls, .stb, .svi, .ift, .ctk].map .softResetBlock)
    State.reset.ready = true ∧ State.reset.resetN = true ∧ Block.gre ∈ started.resets ∧ Block.gre ∉ heard.resets ∧
      started.ready = false ∧ (result (exec (.softResetBlock .ctk) started)).tracker = Tracker.reset ∧
      (result (exec (.softResetBlock .lli) receiving)).ready = true ∧
      ((result (exec (.softResetBlock .lli) receiving)).links.get .l0).reception = .awaitingGap ∧
      [Block.lli, .gre, .pls, .stb, .svi, .ift, .ctk].Perm [.ctk, .ift, .svi, .stb, .pls, .gre, .lli] ∧
      finished.ready = true ∧ finished.startCause = .soft ∧ finished.tracker = Tracker.reset := by decide +kernel

/-! ## Witnesses: lane links -/

/-- Lean adds a type only when the proofs above are checked, which bounds how many it checks at one time. -/
inductive Checkpoint6 where
  | reached

theorem test_meets_FailedCheckIsAnsweredAndCounted :
    heard.resetN = true ∧ heard.resets = [] ∧ (heard.links.get .l0).reception ≠ .awaitingGap ∧
      passesCheck [1, 0, 0] = false ∧
      ((result (exec (.laneMessageArrival .l0 (.ends [1, 0, 0])) heard)).links.get .l0).outbound = [.nak .check 0] := by
  decide +kernel

theorem test_meets_GoodMessageEntersHolder :
    (heard.links.get .l0).reception ≠ .awaitingGap ∧ (heard.links.get .l0).latch = false ∧
      (heard.links.get .l0).holder = none ∧ InKind.survey.allows (List.replicate 136 (0 : Byte)).length = true ∧
      ¬(InKind.query = .survey ∧ (heard.plans.get .l0).state = .disabled) ∧
      (heard.links.get .l0).reception ≠ .inProgress true true ∧ InKind.query.allows (queryBody 2 16).length = true ∧
      ((result (exec (.laneMessageArrival .l0 (.ends (withCheck (1 :: 8 :: queryBody 2 16)))) heard)).links.get .l0).holder =
        some ⟨.query, queryBody 2 16, 0⟩ := by decide +kernel

/-- One arrival for each reason: FAULTED, MALFORMED by kind and by length, DISABLED, OVERRUN. -/
theorem test_meets_MessageTurnedAwayIsAnswered :
    let latched := heard.setLink .l0 { heard.links.get .l0 with latch := true, failures := 3 }
    let full := holding (onLane .settled [entry 0 10]) .query (queryBody 2 16)
    let naks := fun (s : State) (bytes : List Byte) =>
      ((result (exec (.laneMessageArrival .l0 (.ends (withCheck bytes))) s)).links.get .l0).outbound
    naks latched (1 :: 8 :: queryBody 2 16) = [.nak .faulted 1] ∧ naks heard [7, 0] = [.nak .malformed 7] ∧
      naks heard [6, 1, 0] = [.nak .malformed 6] ∧
      naks heard (3 :: 12 :: List.replicate 12 0) = [.nak .disabled 3] ∧
      naks full (1 :: 8 :: queryBody 2 16) = [.nak .overrun 1] ∧ naks full (1 :: 7 :: List.replicate 7 0) = [.nak .malformed 1] := by
  decide +kernel

theorem test_meets_ReceptionAndHelloAtTheLink :
    let waiting := heard.setLink .l0 { heard.links.get .l0 with reception := .awaitingGap }
    let full := holding heard .query (queryBody 2 16)
    (heard.links.get .l0).reception = .idle ∧ (waiting.links.get .l0).reception = .awaitingGap ∧ waiting.resetN = true ∧
      full.hold .l0 = true ∧ heard.hold .l0 = false ∧
      { full with params := { full.params with holdoff := ⟨false, true, true⟩ } }.hold .l0 = false ∧
      ((result (exec (.laneMessageArrival .l0 .firstByte) full)).links.get .l0).reception = .inProgress true true ∧
      ((result (exec (.receptionRestartAfterIdleGap .l0) waiting)).links.get .l0).reception = .idle ∧
      ((result (exec (.helloArrival .l0) heard)).links.get .l0).holder = some ⟨.hello, [], 0⟩ := by decide +kernel

theorem test_meets_HeadOfQueueIsSent :
    let s := heard.setLink .l0 { heard.links.get .l0 with outbound := [.welcome .l0 .l] }
    s.resetN = true ∧ (s.links.get .l0).outbound = [.welcome .l0 .l] ∧
      ((result (exec (.outboundSend .l0) s)).links.get .l0).txd = withCheck [0x84, 6, 0, 0, 0, 0, 0, 0] := by
  decide +kernel

/-! ## Witnesses: plan stacks -/

/-- Lean adds a type only when the proofs above are checked, which bounds how many it checks at one time. -/
inductive Checkpoint7 where
  | reached

/-- HELLO and LANE RESET of an enabled lane, of one with an outstanding grant and a moved edge guard, and of a DISABLED
one. -/
theorem test_meets_HelloAndLaneResetRestartTheLane :
    let s := holding (onLane .settled [entry 0 10]) .hello []
    let off := holding (onLane .disabled []) .hello []
    let busy := s.setGrant .l0 { s.grants.get .l0 with outstanding := [aGrant 5], edgeGuard := 350 }
    let moved := [Handed.drainNotice .l0, .guardChangeNotice .l0]
    (s.links.get .l0).holder = some ⟨.hello, [], 0⟩ ∧ (s.links.get .l0).outbound.length + 2 ≤ 16 ∧ s.resets = [] ∧
      (s.plans.get .l0).state ≠ .disabled ∧ (s.plans.get .l0).stack.getLast? = some (entry 0 10) ∧ s.ready = true ∧
      ((result (exec (.hello .l0) off)).links.get .l0).outbound = [.welcome .l0 .l] ∧
      ((result (exec (.hello .l0) s)).plans.get .l0).state = .switching ∧
      (result (exec (.hello .l0) busy)).handed = moved ∧
      ((result (exec (.laneReset 0) s)).plans.get .l0).state = .switching ∧
      (result (exec (.laneReset 0) busy)).handed = moved ∧
      (result (exec (.laneReset 0) busy)).grants.get .l0 =
        { GrantLane.reset 300 with lastClosure := some ⟨5, .laneReset, none⟩ } ∧
      ((result (exec (.laneReset 0) off)).links.get .l0).outbound = [.welcome .l0 .l] ∧
      (result (exec (.laneReset 0) off)).plans = off.plans := by decide +kernel

/-- A lane that is judged, with its clear fraction at its tolerance, above it by one, and UNKNOWN; and no lane judged. -/
theorem test_meets_NoticeTagsTheTop :
    let stale : PlanEntry := ⟨⟨0, .w20⟩, 64, .stale⟩
    let s := onLane .settled [stale]
    let bypass := { s with mode := .bypass, table := s.table.set 0 (some neighbour) }
    let deaf := { s with coverage := s.coverage.set 3 65 }
    (∀ m ∈ Lane.all, ((s.plans.get m).state = .settled ∧ (s.plans.get m).settle = none) ↔ m = .l0) ∧
      (∀ m ∈ Lane.all, ¬((heard.plans.get m).state = .settled ∧ (heard.plans.get m).settle = none)) ∧
      s.clearFraction ⟨0, 4⟩ 300 = some 64 ∧ bypass.clearFraction ⟨0, 4⟩ 300 = some 4 ∧
      deaf.clearFraction ⟨0, 4⟩ 300 = none ∧
      ((result (exec .modeNotice s)).plans.get .l0).stack = [entry 0 64] ∧
      ((result (exec .modeNotice bypass)).plans.get .l0).stack = [stale] ∧
      result (exec (.changeNotice 3) deaf) = deaf := by decide +kernel

/-- One notice over two judged lanes in RUN: lane 0 falls back, with its order queued, with a grant outstanding and with a
full queue; lane 1 underflows, masked and unmasked; lane 2 is not judged. -/
theorem test_meets_NoticeTagsTheTop_run :
    let two := (onLane .settled [entry 8 64, entry 4 60, entry 0 10]).setPlan .l1 (lanePlan .settled [entry 0 5])
    let s := { two with table := (two.table.set 0 (some neighbour)).set 1 (some { neighbour with span := ⟨4, 4⟩ }) }
    let full := s.setLink .l0 { s.links.get .l0 with outbound := List.replicate 16 (.refused .halted) }
    let took := fun (s : State) => result (exec .modeNotice s)
    let stale := fun (e : PlanEntry) => { e with tag := .stale }
    s.clearFraction ⟨0, 4⟩ 300 = some 4 ∧ s.clearFraction ⟨4, 4⟩ 300 = some 4 ∧ s.clearFraction ⟨8, 4⟩ 300 = some 64 ∧
      (took s).plans.get .l0 = { lanePlan .switching [entry 8 64, stale (entry 4 60), stale (entry 0 10)] with
        switch := some ⟨.fallback, 1, ⟨8, .w20⟩⟩, timeout := some 3000000 } ∧
      ((took s).links.get .l0).outbound = [.switchOrder ⟨8, .w20⟩ 5] ∧
      ((took s).plans.get .l1).stack = [stale (entry 0 5)] ∧ (took s).plans.get .l2 = s.plans.get .l2 ∧
      (took s).handed = [.attentionSetRequest (.lane .noFallback .l1)] ∧
      ((took (granting s [aGrant 5])).plans.get .l0).state = .draining ∧
      (took full).handed = [.attentionSetRequest (.lane .linkFault .l0), .attentionSetRequest (.lane .noFallback .l1)] ∧
      ((took { s with params := { s.params with underflowMask := false } }).plans.get .l1).state = .halted := by
  decide +kernel

/-- A fallback with and without outstanding grants, and an underflow masked and unmasked; a top acceptable at its very
tolerance, UNKNOWN, and unacceptable in BYPASS; and a timer that is not due. -/
theorem test_meets_JudgementFallsBack :
    let at' := fun (stack : List PlanEntry) =>
      let s := heard.setPlan .l0 { lanePlan .settled stack with settle := some 0 }
      { s with table := s.table.set 0 (some neighbour) }
    let s := at' [entry 8 64, entry 0 10]
    let one := at' [entry 0 5]
    let unmasked := { one with params := { one.params with underflowMask := false } }
    atOrAfter s.airTime 0 = true ∧ s.clearFraction ⟨0, 4⟩ 300 = some 4 ∧ s.clearFraction ⟨8, 4⟩ 300 = some 64 ∧
      s.mode = .run ∧
      ((result (exec (.settleTimerExpiry .l0) s)).plans.get .l0).state = .switching ∧
      ((result (exec (.settleTimerExpiry .l0) (granting s [aGrant 5]))).plans.get .l0).switch =
        some ⟨.fallback, 1, ⟨8, .w20⟩⟩ ∧
      (result (exec (.settleTimerExpiry .l0) one)).handed = [.attentionSetRequest (.lane .noFallback .l0)] ∧
      ((result (exec (.settleTimerExpiry .l0) unmasked)).plans.get .l0).state = .halted ∧
      (let expire := fun (s : State) => (result (exec (.settleTimerExpiry .l0) s)).plans.get .l0
       let tagged := fun (t : Tag) => lanePlan .settled [{ entry 0 5 with tag := t }]
       expire (at' [entry 0 4]) = lanePlan .settled [entry 0 4] ∧ expire { one with mode := .bypass } = tagged .stale ∧
        expire { one with coverage := Vector.replicate 48 255 } = tagged .valid ∧
        atOrAfter (one.airTime - 1) 0 = false ∧
        result (exec (.settleTimerExpiry .l0) { one with airTime := one.airTime - 1 }) =
          { one with airTime := one.airTime - 1 }) := by decide +kernel

theorem test_meets_SwitchDoneCompletesTheSwitch :
    let s := holding (switching .unsynced [entry 0 10, entry 4 20] ⟨.fallback, 1, ⟨0, .w20⟩⟩) .switchDone [0, 20]
    (s.links.get .l0).holder = some ⟨.switchDone, [natByte 0, Width.w20.byte], 0⟩ ∧ (PlanSpan.mk 0 .w20).valid = true ∧
      (result (exec (.switchDone .l0) s)).plans.get .l0 =
        { lanePlan .settled [entry 0 10] with settle := some 2000000 } := by decide +kernel

/-- One failed switch of each kind. -/
theorem test_meets_SwitchFailedActsByKind :
    let fail := fun (stack : List PlanEntry) (w : SwitchRecord) =>
      (result (exec (.switchFailed .l0) (holding (switching .switching stack w) .switchFailed
        [natByte w.target.primary, w.target.width.byte]))).plans.get .l0
    fail [entry 0 10] ⟨.restore, 1, ⟨0, .w20⟩⟩ = lanePlan .halted [⟨⟨0, .w20⟩, 10, .stale⟩] ∧
      fail [entry 0 10, entry 4 20] ⟨.push, 2, ⟨4, .w20⟩⟩ = lanePlan .settled [entry 0 10] ∧
      fail [entry 0 10, entry 4 20] ⟨.fallback, 1, ⟨0, .w20⟩⟩ = lanePlan .settled [entry 4 20] ∧
      fail [entry 0 10, entry 4 20] ⟨.pop, 1, ⟨0, .w20⟩⟩ =
        lanePlan .settled [⟨⟨0, .w20⟩, 10, .stale⟩, entry 4 20] := by decide +kernel

theorem test_meets_UnmatchedSwitchAnswerIsNaked :
    let s := holding (switching .switching [entry 0 10] ⟨.restore, 1, ⟨0, .w20⟩⟩) .switchDone [4, 20]
    let bad := holding heard .switchFailed [13, 20]
    (PlanSpan.mk 4 .w20).valid = true ∧ planOf? ⟨13, 20⟩ = none ∧
      ((result (exec (.switchDone .l0) s)).links.get .l0).outbound = [.nak .unexpected 4] ∧
      ((result (exec (.switchFailed .l0) bad)).links.get .l0).outbound = [.nak .malformed 5] := by decide +kernel

/-- A drain notice at a DRAINING lane and at another; a timeout with a retry left and with none. -/
theorem test_meets_DrainAndTimeoutSendTheOrder :
    let w : SwitchRecord := ⟨.push, 2, ⟨4, .w20⟩⟩
    let stack := [entry 0 10, entry 4 20]
    let draining := heard.setPlan .l0 { lanePlan .draining stack with switch := some w }
    let last := heard.setPlan .l0 { lanePlan .unsynced stack with switch := some w, timeout := some 0, attempts := 3 }
    atOrAfter heard.airTime 0 = true ∧ last.params.switchRetries ≤ (last.plans.get .l0).attempts ∧
      ((result (exec (.drainNotice .l0) draining)).plans.get .l0).state = .switching ∧
      result (exec (.drainNotice .l0) heard) = heard ∧
      ((result (exec (.switchTimeout .l0) (switching .switching stack w))).plans.get .l0).state = .unsynced ∧
      ((result (exec (.switchTimeout .l0) last)).plans.get .l0).state = .halted := by decide +kernel

/-- PUSH: lane 3, there and for the other commands of a lane, each refusal, a DISABLED lane, a SETTLED lane with and without grants, and a full stack that sheds. -/
theorem test_meets_PushPlacesAnEntry :
    let push := fun (s : State) (tolerance : Byte) => result (exec (.push 0 ⟨4, 20⟩ tolerance) s)
    let six := List.replicate 6 (entry 0 10)
    let strict := { onLane .disabled six with params := { Params.default with overflowMask := false } }
    let bandH := heard.setPlan .l0 { lanePlan .disabled [⟨⟨20, .w20⟩, 10, .valid⟩] with band := .h }
    let lane3 := fun (c : Instr) => (result (exec c heard)).answered.status = .badArgument
    (PlanSpan.mk 4 .w20).valid = true ∧ (∀ w ∈ [Width.w20, .w40], (PlanSpan.mk 13 w).valid = false) ∧
      lane3 (.push 3 ⟨4, 20⟩ 64) ∧ lane3 (.pop 3) ∧ lane3 (.continueLane 3) ∧ lane3 (.enable 3) ∧ lane3 (.disable 3) ∧
      lane3 (.laneReset 3) ∧ lane3 (.push 0 ⟨13, 20⟩ 64) ∧ lane3 (.push 0 ⟨4, 21⟩ 64) ∧
      (push heard 65).answered.status = .badArgument ∧
      (push (switching .switching [entry 0 10] ⟨.restore, 1, ⟨0, .w20⟩⟩) 64).answered.status = .busy ∧
      (push bandH 64).answered.status = .badArgument ∧ (push strict 64).answered.status = .stackFull ∧
      ((push heard 64).plans.get .l0).stack = [entry 4 64] ∧
      (push (onLane .disabled six) 64).answered = ⟨.done, [6, 1]⟩ ∧
      ((push (onLane .settled [entry 0 10]) 64).plans.get .l0).state = .switching ∧
      ((push (granting (onLane .halted [entry 0 10]) [aGrant 5]) 64).plans.get .l0).state = .draining := by
  decide +kernel

/-- POP: each refusal, a DISABLED lane, a SETTLED lane with and without grants. -/
theorem test_meets_PopRemovesOrSwitches :
    let pop := fun (s : State) => result (exec (.pop 0) s)
    (pop (switching .switching [entry 0 10] ⟨.restore, 1, ⟨0, .w20⟩⟩)).answered.status = .busy ∧
      (pop heard).answered.status = .emptyStack ∧ ((pop (onLane .disabled [entry 0 10])).plans.get .l0).stack = [] ∧
      (pop (onLane .settled [entry 0 10])).answered.status = .lastPlan ∧
      ((pop (onLane .settled [entry 0 10, entry 4 20])).plans.get .l0).switch = some ⟨.pop, 1, ⟨0, .w20⟩⟩ ∧
      ((pop (granting (onLane .halted [entry 0 10, entry 4 20]) [aGrant 5])).plans.get .l0).state = .draining := by
  decide +kernel

theorem test_meets_ContinueResumesAHaltedLane :
    heard.ready = true ∧ ((onLane .halted [entry 0 10]).plans.get .l0).state = .halted ∧
      (heard.plans.get .l0).state ≠ .halted ∧
      (result (exec (.continueLane 0) (onLane .halted [entry 0 10]))).plans = (onLane .settled [entry 0 10]).plans ∧
      (result (exec (.continueLane 0) heard)).answered.status = .refused := by decide +kernel

theorem test_meets_EnableAndDisable :
    let enable := fun (s : State) => result (exec (.enable 0) s)
    (enable (onLane .settled [entry 0 10])).answered.status = .refused ∧ (enable heard).answered.status = .emptyStack ∧
      ((enable (onLane .disabled [entry 0 10])).plans.get .l0).state = .switching ∧
      (result (exec (.disable 0) heard)).plans = heard.plans ∧
      (result (exec (.disable 0) (granting (onLane .settled [entry 0 10]) [aGrant 5]))).handed = [.drainNotice .l0] := by
  decide +kernel

/-! ## Witnesses: the Grant Engine -/

/-- Lean adds a type only when the proofs above are checked, which bounds how many it checks at one time. -/
inductive Checkpoint8 where
  | reached

/-- A QUERY malformed at 15 and 8,001, and one refused for each reason at 16 or 8,000. -/
theorem test_meets_QueryIsRefused :
    let answers := fun (s : State) (d : Half) =>
      (s.queryLane, ((result (exec .query (holding s .query (queryBody 2 d)))).links.get .l0).outbound)
    (holding heard .query (queryBody 2 15)).queryLane = some .l0 ∧
      (answers heard 15).2 = [.nak .malformed 1] ∧ (answers heard 8001).2 = [.nak .malformed 1] ∧
      (answers heard 16).2 = [.refused .disabled] ∧
      (answers (switching .unsynced [entry 0 10] ⟨.restore, 1, ⟨0, .w20⟩⟩) 8000).2 = [.refused .switching] ∧
      (answers (onLane .halted [entry 0 10]) 16).2 = [.refused .halted] ∧
      (answers (granting (onLane .settled [entry 0 10]) [aGrant 5, aGrant 6]) 8000).2 = [.refused .tooMany] := by
  decide +kernel

/-- A QUERY while the tracker is FREE, and in BYPASS while it is predicting. -/
theorem test_meets_OpenQueryIsGrantedAtE :
    let s := holding (onLane .settled [entry 0 10]) .query (queryBody 2 8000)
    let bypass := { predicted s with mode := .bypass }
    s.tracker.state = .free ∧ bypass.tracker.state = .locked ∧ s.queryLane = some .l0 ∧
      ((result (exec .query s)).links.get .l0).outbound =
        [.go 0 60 8000 ⟨0, .w20⟩ { noFlags with stranger := true, unpredicted := true }] ∧
      ((result (exec .query bypass)).links.get .l0).outbound =
        [.go 0 60 8000 ⟨0, .w20⟩ { noFlags with stranger := true, bypass := true }] := by decide +kernel

/-- An address of each class, and E with no other grant and with one that ends later. -/
theorem test_meets_LookupGivesTheTerms :
    (withStation1 heard aStation).StationsOk ∧ Address.isGroup 0x010000000000 = true ∧ Address.isGroup 2 = false ∧
      (withStation1 heard aStation).stations[(0 : StationSlot)] = some aStation ∧ aStation.aliasAddr = some 4 ∧
      (∀ k : StationSlot, heard.stations[k] = none) ∧ (heard.grants.get .l0).outstanding = [] ∧
      heard.earliestStart .l0 = 60 ∧ (granting heard [aGrant 5]).earliestStart .l0 = 1500 :=
  ⟨one_station_ok heard rfl, by decide +kernel⟩

/-- A predicted query whose window of 200 fits before the burst, with its cap cut there. -/
theorem test_meets_PredictedGrantIsClearOfBursts :
    let s := holding (predicted (onLane .settled [entry 0 10])) .query (queryBody 2 8000)
    s.params.Ok ∧ s.tracker.Ok ∧ s.StationsOk ∧ s.TableOk ∧ s.queryLane = some .l0 ∧ s.tracker.state = .locked ∧
      s.tracker.reference = some 0 ∧ s.mode = .run ∧
      ((result (exec .query s)).links.get .l0).outbound =
        [.go 0 1300 8000 ⟨0, .w20⟩ { noFlags with stranger := true }] :=
  ⟨default_params_ok, locked_ok, no_station_ok _ rfl, predicted_table_ok, by decide +kernel, rfl, rfl, rfl,
    by decide +kernel⟩

/-- Caps cut by a burst and not, and with no interval; a query that is granted, and one that an oven on all the time blocks; a 40 MHz plan for a 40 MHz station, with the
secondary half clear and with an oven there that is on at E. -/
theorem test_meets_PredictedQueryTakesTheFirstClearStart :
    let always : Interferer := ⟨.cadenced 19500 (some 0), ⟨0, 4⟩, 30, 4, 0, .confirmed, .learned⟩
    let above : Interferer := ⟨.cadenced 9000 (some 0), ⟨4, 4⟩, 30, 4, 0, .confirmed, .learned⟩
    let s := holding (predicted (onLane .settled [entry 0 10])) .query (queryBody 2 16)
    let blocked := { s with table := s.table.set 0 (some always) }
    let plan : PlanEntry := ⟨⟨0, .w40⟩, 10, .valid⟩
    let wide := withStation1 (holding (predicted (onLane .settled [plan])) .query (queryBody 2 16)) aStation
    let narrow := { wide with table := wide.table.set 1 (some above) }
    capAt 20000 [⟨11700, 9600⟩] 1300 10401 = 10400 ∧ capAt 20000 [⟨11700, 9600⟩] 1300 10400 = 10400 ∧
      capAt 20000 [⟨11700, 9600⟩] 1300 10399 = 10399 ∧ capAt 20000 [] 1300 8000 = 8000 ∧
      (PlanEntry.plan (entry 0 10)).width = .w20 ∧
      searchOffset 20000 (s.blockingArcs ⟨0, 4⟩ 300) 60 16 = some 1240 ∧
      searchOffset 20000 (blocked.blockingArcs ⟨0, 4⟩ 300) 60 16 = none ∧
      ((result (exec .query s)).grants.get .l0).nextId = 1 ∧
      ((result (exec .query blocked)).links.get .l0).outbound = [.blocked { noFlags with stranger := true }] ∧
      (wide.terms 2).width = .w40 ∧
      ((result (exec .query wide)).links.get .l0).outbound = [.go 0 1300 16 ⟨0, .w40⟩ noFlags] ∧
      ((result (exec .query narrow)).links.get .l0).outbound =
        [.go 0 1300 16 ⟨0, .w20⟩ { noFlags with narrowed := true }] := by decide +kernel

/-- Table 7-2: the position 0 with lanes 1 and 2 waiting. -/
theorem test_meets_ArbiterRotates :
    let wait := fun (s : State) (l : Lane) => s.setLink l { s.links.get l with holder := some ⟨.query, queryBody 2 16, 0⟩ }
    let s := { wait (wait heard .l1) .l2 with arbiter := .l0 }
    s.queryLane = some .l1 ∧ heard.queryLane = none ∧ s.resetN = true ∧ (result (exec .query s)).arbiter = .l1 := by
  decide +kernel

/-- An OUTCOME malformed in each field, one too late, and one ABANDONED. -/
theorem test_meets_OutcomeClosesOrIsTooLate :
    let s := granting heard [aGrant 5, aGrant 6]
    let answers := fun (body : List Byte) =>
      ((result (exec (.outcome .l0) (holding s .outcome body))).links.get .l0).outbound
    answers ([5, 3] ++ halfBytes 0) = [.nak .malformed 2] ∧ answers ([5, 0] ++ halfBytes 8001) = [.nak .malformed 2] ∧
      answers ([7, 2] ++ halfBytes 8000) = [.outcomeAnswer .tooLate 7] ∧
      answers ([5, 2] ++ halfBytes 8000) = [.outcomeAnswer .accepted 5] := by decide +kernel

/-- An OK outcome, below GUARD_RELAX_RUN and at it, of the only grant and of one of two. -/
theorem test_meets_OkOutcomeRelaxesTheGuard :
    let s := holding (granting heard [aGrant 5]) .outcome ([5, 0] ++ halfBytes 400)
    let two := granting s [aGrant 4, aGrant 5]
    let s31 := s.setGrant .l0 { s.grants.get .l0 with okRun := 31 }
    (s.grants.get .l0).outstanding = [] ++ aGrant 5 :: [] ∧
      (two.grants.get .l0).outstanding = [aGrant 4] ++ aGrant 5 :: [] ∧ (aGrant 4).id ≠ 5 ∧
      (result (exec (.outcome .l0) s)).handed = [.counterClaim 2 .ok, .drainNotice .l0] ∧
      (result (exec (.outcome .l0) two)).handed = [.counterClaim 2 .ok] ∧
      ((result (exec (.outcome .l0) two)).grants.get .l0).outstanding = [aGrant 4] ∧
      ((result (exec (.outcome .l0) s31)).grants.get .l0).edgeGuard = 250 ∧
      (result (exec (.outcome .l0) s31)).handed = [.counterClaim 2 .ok, .guardChangeNotice .l0, .drainNotice .l0] := by
  decide +kernel

/-- A LOST outcome near a burst, of the only grant and of one of two, and, with no prediction, one that is no edge loss. -/
theorem test_meets_EdgeLossWidensTheGuard :
    let s := holding (granting heard [aGrant 5]) .outcome ([5, 1] ++ halfBytes 400)
    let two := predicted (granting s [aGrant 5, aGrant 6])
    (predicted s).tracker.Ok ∧ 0 < (aGrant 5).cap ∧
      ((result (exec (.outcome .l0) (predicted s))).grants.get .l0).edgeGuard = 350 ∧
      (result (exec (.outcome .l0) two)).handed = [.counterClaim 2 .lost, .guardChangeNotice .l0] ∧
      ((result (exec (.outcome .l0) s)).grants.get .l0).edgeGuard = 300 :=
  ⟨locked_ok, by decide +kernel⟩

theorem test_meets_ExpiryClosesTheGrant :
    let s := { granting heard [aGrant 5] with airTime := 3500 }
    (s.grants.get .l0).outstanding = [] ++ aGrant 5 :: [] ∧ atOrAfter s.airTime (aGrant 5).expiry = true ∧
      ((result (exec (.grantExpiry .l0 5) s)).grants.get .l0).lastClosure = some ⟨5, .expired, none⟩ := by
  decide +kernel

/-! ## Witnesses: stations -/

/-- Lean adds a type only when the proofs above are checked, which bounds how many it checks at one time. -/
inductive Checkpoint9 where
  | reached

/-- A claim that finds no record, an OK and a LOST one on a NORMAL record. -/
theorem test_meets_CounterClaimsMoveTheStation :
    let s := withStation1 heard aStation
    s.StationsOk ∧ (∀ k : StationSlot, (s.stations[k]).any (·.primary == 6) = false) ∧ aStation.primary = 2 ∧
      (result (exec (.counterClaim 6 .ok) s)).stations = s.stations ∧
      ((result (exec (.counterClaim 2 .lost) s)).stations[(0 : StationSlot)]).map (·.lossStreak) = some 1 :=
  ⟨one_station_ok heard rfl, by decide +kernel⟩

/-- A result applied, one that names no lane, one for a FREE slot and one whose record is NORMAL; requests with no plan at home,
and with a better lane, for each width of the station. -/
theorem test_meets_SteeringIsRequestedAndApplied :
    let s := withStation1 heard { aStation with condition := .strained }
    s.stations[(0 : StationSlot)] = some { aStation with condition := .strained } ∧
      (result (exec (.steeringResult ⟨0, 2, .l0, some .l1⟩) s)).advised = 2 ∧
      result (exec (.steeringResult ⟨0, 2, .l0, none⟩) s) = s ∧ result (exec (.steeringResult ⟨1, 2, .l0, some .l1⟩) s) = s ∧
      (result (exec (.steeringResult ⟨0, 2, .l0, some .l1⟩) (withStation1 heard aStation))).advised = 0 ∧
      (result (exec (.steeringRequest ⟨0, 2, .l0, .both, .w20⟩) s)).handed = [.steeringResult ⟨0, 2, .l0, none⟩] ∧
      (let wide := { onLane .settled [⟨⟨0, .w40⟩, 10, .valid⟩] with
        table := s.table.set 0 (some { neighbour with span := ⟨4, 4⟩ }) }
       let s := wide.setPlan .l1 (lanePlan .halted [entry 8 10])
       let asked := fun (w : Width) => (result (exec (.steeringRequest ⟨0, 2, .l0, .both, w⟩) s)).handed
       asked .w40 = [.steeringResult ⟨0, 2, .l0, some .l1⟩] ∧ asked .w20 = [.steeringResult ⟨0, 2, .l0, none⟩]) := by
  decide +kernel

/-- ADMIT: each refusal and an admission; floors at both ends of their range and beyond them, and bytes that name no bands, no
width and no home lane. -/
theorem test_meets_AdmitPlacesAStation :
    let tryAdmit := fun (s : State) (p : Address) (q : Option Address) (f : Option Half) =>
      (result (exec (.admitStation ⟨p, q, 3, 20, 0, f⟩) s)).answered
    let full := { heard with stations := Vector.replicate 63 (some aStation) }
    let bytes := fun (bands width home : Byte) =>
      (result (exec (.admitStation ⟨2, none, bands, width, home, none⟩) heard)).answered.status
    (bytes 3 20 0, bytes 0 20 0, bytes 4 20 0, bytes 1 21 0, bytes 2 40 3) =
        (.done, .badArgument, .badArgument, .badArgument, .badArgument) ∧
      tryAdmit heard 0x010000000000 none none = ⟨.badArgument, []⟩ ∧ tryAdmit heard 2 none (some 49) = ⟨.badArgument, []⟩ ∧
      tryAdmit heard 2 none (some 2001) = ⟨.badArgument, []⟩ ∧ tryAdmit heard 2 (some 2) none = ⟨.duplicate, []⟩ ∧
      tryAdmit (withStation1 heard aStation) 4 none none = ⟨.duplicate, []⟩ ∧ tryAdmit full 6 none none = ⟨.full, []⟩ ∧
      tryAdmit heard 2 none (some 50) = ⟨.done, [1]⟩ ∧ tryAdmit (withStation1 heard aStation) 6 none (some 2000) = ⟨.done, [2]⟩ := by
  decide +kernel

/-- RELEASE and AMEND of slot 0, of slots 63 and 64, of a FREE slot and of an ADMITTED one; AMEND of every field, of an
alias in use by another record, of the record's own primary address, of a group address and of a field out of range. -/
theorem test_meets_ReleaseAndStationAmend :
    let s := (withStation1 heard aStation).setStation 1 (some { aStation with primary := 8, aliasAddr := none })
    let released := fun (n : Byte) => (result (exec (.release n) s)).answered.status
    let amend := fun (n : Byte) (a : Given Address) (home : Byte) (floor : Half) =>
      result (exec (.stationAmend ⟨n, a, some BandSet.onlyL.byte, some 20, some home, some floor⟩) s)
    let amended := fun (n : Byte) (a : Given Address) (home : Byte) (floor : Half) =>
      (amend n a home floor).answered.status
    released 0 = .refused ∧ released 1 = .done ∧ released 63 = .notFound ∧ released 64 = .badArgument ∧
      amended 0 .omitted 1 50 = .refused ∧ amended 63 .omitted 1 50 = .notFound ∧
      amended 64 .omitted 1 50 = .badArgument ∧ amended 1 (.value 8) 1 50 = .duplicate ∧
      amended 1 (.value 2) 1 2000 = .duplicate ∧ amended 1 (.value 0x010000000000) 1 50 = .badArgument ∧
      amended 1 .omitted 3 50 = .badArgument ∧ amended 1 .omitted 1 49 = .badArgument ∧
      amended 1 .omitted 1 2001 = .badArgument ∧
      (amend 1 .remove Lane.l1.byte 2000).stations[(0 : StationSlot)] =
        some { aStation with aliasAddr := none, bands := .onlyL, width := .w20, home := .l1, floor := 2000 } := by
  decide +kernel

/-! ## Witnesses: interferers -/

/-- Lean adds a type only when the proofs above are checked, which bounds how many it checks at one time. -/
inductive Checkpoint10 where
  | reached

/-- PLACE of an oven at both ends of its on-duration, of a STEADY and a SPORADIC neighbour in band H, into a full table, and
with an argument out of its range, missing or in excess. -/
theorem test_meets_PlaceCreatesAPinnedRecord :
    let full := { heard with table := Vector.replicate 32 (some neighbour) }
    let placed := fun (s : State) (on : Half) =>
      (result (exec (.place ⟨0, Band.l.byte, 0, 4, 30, none, some on, some 19999⟩) s)).answered
    let near := fun (s : State) (kind duty : Byte) =>
      (result (exec (.place ⟨kind, Band.h.byte, 40, 8, 63, some duty, none, none⟩) s)).answered
    (Span.mk 0 4).isInterfererSpan = true ∧ (Span.mk 40 8).isInterfererSpan = true ∧ (Span.mk 40 8).band = .h ∧
      placed heard 500 = ⟨.done, [0, 1]⟩ ∧ placed (predicted heard) 19500 = ⟨.done, [1, 0]⟩ ∧
      placed full 500 = ⟨.full, []⟩ ∧ placed heard 19501 = ⟨.badArgument, []⟩ ∧ near heard 1 64 = ⟨.done, [0, 0]⟩ ∧
      near heard 2 0 = ⟨.done, [0, 0]⟩ ∧ near heard 3 0 = ⟨.badArgument, []⟩ ∧ near heard 0 0 = ⟨.badArgument, []⟩ ∧
      near heard 1 65 = ⟨.badArgument, []⟩ ∧ near full 1 64 = ⟨.full, []⟩ ∧ near full 1 65 = ⟨.badArgument, []⟩ ∧
      (result (exec (.place ⟨2, Band.h.byte, 40, 8, 63, some 5, none, none⟩) heard)).table[(0 : Slot)] =
        some ⟨.sporadic 5, ⟨40, 8⟩, 63, 0, 0, .pinned, .placed⟩ := by decide +kernel

theorem test_meets_PinAndUnpin :
    let s := predicted heard
    let pinned := result (exec (.pin 0) s)
    (result (exec (.pin 32) s)).answered.status = .badArgument ∧ (result (exec (.unpin 31) s)).answered.status = .notFound ∧
      (result (exec (.unpin 0) s)).answered.status = .refused ∧ pinned.handed = [.changeNotice 0] ∧
      (result (exec (.pin 0) pinned)).handed = [.changeNotice 0] ∧
      ((result (exec (.unpin 0) pinned)).table[(0 : Slot)]).map (·.life) = some .confirmed := by decide +kernel

/-- AMEND of a PINNED oven: with a new on-duration, with the level alone, with a phase of another value, gained and dropped,
and with a duty, which it does not have; of a PINNED neighbour: another kind, another span and one out of its band; of a
record that is not PINNED, of an EMPTY slot and of slot 32. -/
theorem test_meets_AmendWritesAPinnedRecord :
    let s := (heard.setSlot 0 (some { oven none with life := .pinned })).setSlot 1
      (some { neighbour with life := .pinned })
    let t := { predicted heard with table := heard.table.set 0 (some { oven (some 12000) with life := .pinned }) }
    let amend := fun (s : State) (on : Half) (phase : Given Half) =>
      result (exec (.interfererAmend ⟨natByte 0, none, some 63, none, none, some on, phase⟩) s)
    let near := fun (span : Byte × Byte) (kind : Option Byte) =>
      result (exec (.interfererAmend ⟨natByte 1, some span, none, kind, some 3, none, .omitted⟩) s)
    let atSlot := fun (slot : Byte) (s : State) =>
      result (exec (.interfererAmend ⟨slot, none, some 3, none, none, none, .omitted⟩) s)
    (500 : Half).toNat + 500 ≤ s.tracker.period ∧ (amend s 500 .omitted).handed = [.changeNotice 0] ∧
      (amend s 9000 .omitted).handed = [] ∧ (amend s 9000 (.value 7)).answered = ⟨.done, [1]⟩ ∧
      (amend t 9000 (.value 7)).handed = [.changeNotice 0] ∧ (amend t 9000 (.value 7)).changed = 0 ∧
      (amend t 9000 .remove).changed = 1 ∧ (amend t 9000 (.value 20000)).answered.status = .badArgument ∧
      (result (exec (.interfererAmend ⟨natByte 0, none, none, none, some 3, none, .omitted⟩) s)).answered.status =
        .badArgument ∧
      (near (2, 4) (some 2)).table[(1 : Slot)] = some { neighbour with
        emission := .sporadic 3, span := ⟨2, 4⟩, life := .pinned } ∧
      (near (16, 4) none).answered.status = .badArgument ∧ (near (2, 4) (some 0)).answered.status = .badArgument ∧
      (amend (predicted heard) 500 .omitted).answered.status = .refused ∧
      (atSlot 31 s).answered.status = .notFound ∧ (atSlot 32 s).answered.status = .badArgument := by decide +kernel

/-- RETIRE of slot 32, of an EMPTY slot, of a record that is not the anchor, of the anchor with another oven left, and of the last oven. -/
theorem test_meets_RetireRemovesTheRecord :
    let two := { predicted heard with table := (predicted heard).table.set 3 (some (oven (some 70))) }
    (result (exec (.retire 32) two)).answered = ⟨.badArgument, []⟩ ∧
      (result (exec (.retire 31) two)).answered = ⟨.notFound, []⟩ ∧
      (result (exec (.retire (natByte 3)) two)).tracker = locked ∧
      (result (exec (.retire (natByte 0)) two)).tracker = { locked with anchor := some 3, anchorOffset := 70 } ∧
      (result (exec (.retire (natByte 0)) (predicted heard))).handed =
        [.cadenceStateNotice, .attentionSetRequest .cadenceChange, .changeNotice 0] := by decide +kernel

/-- A SURVEY accepted and one malformed, on a SETTLED lane with an empty table. -/
theorem test_meets_SurveyUpdatesCoverageAndTable :
    let body : List Byte := [0, 0, 0, 0, 0x3A, 0x98, 0, 1, 3, 12, 30, 0]
    let s := holding (onLane .settled [entry 0 10]) .survey body
    let bad := holding (onLane .settled [entry 0 10]) .survey (List.replicate 12 0)
    s.surveyLane = some .l0 ∧ s.surveyOf? .l0 body = some ⟨0, 15000, .l, [⟨3, 12, 30, none⟩]⟩ ∧
      bad.surveyOf? .l0 (List.replicate 12 0) = none ∧ s.params.detectLevel ≤ 12 ∧
      ((result (exec .survey bad)).links.get .l0).outbound = [.nak .malformed 3] ∧
      (result (exec .survey s)).coverage[(3 : Fin 48)] = 0 ∧ (result (exec .survey s)).coverage[(4 : Fin 48)] = 1 ∧
      (result (exec .survey s)).table[(0 : Slot)] = some ⟨.steady 30, ⟨3, 1⟩, 12, 1, 0, .tentative, .learned⟩ ∧
      (result (exec .survey s)).handed = [.changeNotice 0] := by decide +kernel

theorem full_table_ok (s : State) (hs : s.table = Vector.replicate 32 (some neighbour)) : s.TableOk := by
  intro k r h
  simp only [hs, Fin.getElem_fin, Vector.getElem_replicate, Option.some.injEq] at h
  subst h
  exact ⟨by decide, by decide, by decide, by decide, (by intro d h; cases h; decide), (by intro o h; cases h),
    (by intro φ h; cases h), (by intro h; cases h)⟩

/-- A full table without a TENTATIVE record over another slice, which full_table_ok shows in range, and with one. -/
theorem test_meets_SurveyUpdatesCoverageAndTable_full :
    let s := holding (onLane .settled [entry 0 10]) .survey [0, 0, 0, 0, 0x3A, 0x98, 0, 1, 8, 12, 30, 0]
    let full := { s with table := Vector.replicate 32 (some neighbour) }
    let one := { full with table := full.table.set 7 (some { neighbour with life := .tentative }) }
    neighbour.span.overlaps ⟨8, 1⟩ = false ∧
      (result (exec .survey full)).handed = [.attentionSetRequest .tableFull] ∧
      (result (exec .survey full)).table = full.table ∧ (result (exec .survey one)).changed = 128 ∧
      (result (exec .survey one)).table[(7 : Slot)] = some ⟨.steady 30, ⟨8, 1⟩, 12, 1, 0, .tentative, .learned⟩ := by
  decide +kernel

/-- A burst that creates the first oven, one that matches the anchor, and a quiet reading over a PINNED anchor. -/
theorem test_meets_SurveyUpdatesCoverageAndTable_reports :
    let burst := fun (level : Byte) => [0, 0, 0, 0, 0x4E, 0x20, 0, 1, 2, level, 30, 1] ++ halfBytes 12100 ++ halfBytes 19000
    let take := fun (s : State) (level : Byte) =>
      result (exec .survey (holding (s.setPlan .l0 (lanePlan .settled [entry 0 10])) .survey (burst level)))
    let pinned := { predicted heard with table := heard.table.set 0 (some { oven none with life := .pinned }) }
    (holding (onLane .settled [entry 0 10]) .survey (burst 12)).surveyOf? .l0 (burst 12) =
        some ⟨0, 20000, .l, [⟨2, 12, 30, some (12100, 19000)⟩]⟩ ∧ shortestStep 20000 12000 12100 = 100 ∧
      (take heard 12).handed = [.changeNotice 0, .riseReport 0 12100] ∧
      ((take heard 12).table[(0 : Slot)]).map (·.emission) = some (.cadenced 6900 none) ∧
      (take (predicted heard) 12).handed = [.changeNotice 0, .riseReport 0 12100] ∧
      ((take (predicted heard) 12).table[(0 : Slot)]).map (·.emission) = some (.cadenced 8475 (some 12025)) ∧
      (take pinned 11).handed = [.anchorMissReport 0] := by decide +kernel

/-- Observations of several readings: two adjacent without bursts, one cut off by its burst, one beyond a cold reading, and
bursts whose rises lie 1,000 and 1,001 apart; ten hot readings of band H, divided after the eighth. -/
theorem test_meets_SurveyUpdatesCoverageAndTable_observations :
    let low : Survey := ⟨100, 15000, .l, [⟨0, 12, 16, none⟩, ⟨1, 20, 3, none⟩, ⟨2, 15, 4, some (50, 90)⟩, ⟨3, 11, 64, none⟩,
      ⟨4, 12, 15, none⟩, ⟨6, 13, 5, some (2000, 5000)⟩, ⟨7, 14, 6, some (1000, 4000)⟩, ⟨8, 15, 7, some (2001, 4001)⟩]⟩
    let high : Survey := ⟨0, 15000, .h, (List.range 10).map fun i => ⟨20 + i, 12, 16, none⟩⟩
    low.valid = true ∧ high.valid = true ∧
      observations .default low = [⟨⟨0, 2⟩, 20, 16, none, .steady⟩, ⟨⟨2, 1⟩, 15, 4, some (150, 40), .cadenced⟩,
        ⟨⟨4, 1⟩, 12, 15, none, .sporadic⟩, ⟨⟨6, 2⟩, 14, 6, some (1100, 4000), .cadenced⟩,
        ⟨⟨8, 1⟩, 15, 7, some (2101, 2000), .cadenced⟩] ∧
      (observations .default high).map (·.span) = [⟨20, 8⟩, ⟨28, 2⟩] := by decide +kernel

/-- A survey of two readings, one of them cold: the neighbour it covers is charged the miss that makes it FADING, a record
is created, and each gives a notice. With the anchor covered, unmatched and at its last miss, the anchor moves to an oven
that is covered in turn and reported, or with no other oven the tracker is freed. -/
theorem test_meets_SurveyUpdatesCoverageAndTable_event :
    let body : List Byte := [0, 0, 0, 0, 0x4E, 0x20, 0, 2, 1, 0, 0, 0, 9, 12, 16, 0]
    let take := fun (s : State) =>
      result (exec .survey (holding (s.setPlan .l0 (lanePlan .settled [entry 0 10])) .survey body))
    let s := { heard with table := heard.table.set 0 (some { neighbour with misses := 7 }) }
    let leaving := { predicted heard with table := heard.table.set 0 (some { oven (some 12000) with misses := 31 }) }
    let two := { leaving with table := leaving.table.set 5 (some (oven (some 70))) }
    (holding (onLane .settled [entry 0 10]) .survey body).surveyOf? .l0 body =
        some ⟨0, 20000, .l, [⟨1, 0, 0, none⟩, ⟨9, 12, 16, none⟩]⟩ ∧
      (take s).table[(0 : Slot)] = some { neighbour with misses := 8, life := .fading } ∧
      (take s).table[(1 : Slot)] = some ⟨.steady 16, ⟨9, 1⟩, 12, 1, 0, .tentative, .learned⟩ ∧
      (take s).handed = [.changeNotice 0, .changeNotice 1] ∧ (take s).changed = 3 ∧
      (take two).tracker = { locked with anchor := some 5, anchorOffset := 70 } ∧
      (take two).table[(0 : Slot)] = none ∧
      (take two).table[(5 : Slot)] = some { oven (some 70) with misses := 1 } ∧
      (take two).handed = [.changeNotice 0, .changeNotice 1, .anchorMissReport 5] ∧
      (take leaving).tracker = Tracker.reset ∧
      (take leaving).handed =
        [.cadenceStateNotice, .attentionSetRequest .cadenceChange, .changeNotice 0, .changeNotice 1] := by decide +kernel

/-- What a match does to an oven's on-duration and phase: adjusted, taken outright, and kept by a PINNED record. -/
theorem test_meets_MatchesAndMissesMoveTheRecord :
    let seen : Observation := ⟨⟨0, 4⟩, 20, 30, some (12100, 8000), .cadenced⟩
    let matched := fun (r : Interferer) => ((r.matched .default locked seen).emission, (r.matched .default locked seen).life)
    matched (oven (some 12000)) = (.cadenced 8750 (some 12025), .confirmed) ∧
      matched (oven none) = (.cadenced 8750 (some 12100), .confirmed) ∧
      matched { oven none with life := .pinned } = (.cadenced 9000 (some 12100), .pinned) ∧
      (let busy : Observation := ⟨⟨0, 4⟩, 20, 0, none, .sporadic⟩
       let held := { neighbour with emission := .steady 16, life := .pinned }
       (held.matched .default locked busy).emission = .steady 16 ∧
        ({ held with life := .confirmed }.matched .default locked busy).emission = .sporadic 12) ∧
      ((oven none).matched .default .reset seen).emission = .cadenced 8750 none := by decide +kernel

/-- The choice for an observation: the greatest overlap, the lowest slot among equals, a slot already taken, another kind and
an oven MATCH_TOL and one more away from its phase; a record created, one evicted and one dropped; and the marks of a record
that fades, that counts and moves, that counts and moves its phase alone, and that does not count. -/
theorem test_meets_MatchesAndMissesMoveTheRecord_choice :
    let at' := fun (first count : Nat) => some { neighbour with span := ⟨first, count⟩ }
    let start : Intake := ⟨(((Vector.replicate 32 none).set 2 (at' 0 2)).set 4 (at' 0 4)).set 7 (at' 0 4), .none, [], 0, false⟩
    let seen : Observation := ⟨⟨0, 4⟩, 20, 30, none, .steady⟩
    let burst : Observation := ⟨⟨0, 4⟩, 20, 30, some (13000, 8000), .cadenced⟩
    let ovens := fun (φ : Nat) => { start with table := (Vector.replicate 32 none).set 1 (some (oven (some φ))) }
    let chosen := fun (i : Intake) (o : Observation) => (Intake.take (predicted heard) i o).taken.map (·.1)
    let full := { start with table := Vector.replicate 32 (at' 8 4) }
    let new := fun (confidence misses : Nat) =>
      some { neighbour with span := ⟨8, 4⟩, life := .tentative, confidence := confidence, misses := misses }
    let least := { full with table := ((full.table.set 3 (new 2 5)).set 6 (new 1 1)).set 9 (new 1 2) }
    let far : Observation := { seen with span := ⟨12, 2⟩ }
    let marks := fun (a b : Interferer) => ((changeMarks 1 a b).noticed, (changeMarks 1 a b).entered)
    start.candidate heard seen 2 = some 2 ∧ start.candidate heard seen 4 = some 4 ∧ chosen start seen = [4] ∧
      chosen { start with taken := [(4, seen)] } seen = [4, 7] ∧ chosen start burst = [0] ∧
      chosen (ovens 12000) burst = [1] ∧ chosen (ovens 11999) burst = [0] ∧ chosen start far = [0] ∧
      chosen least far = [9] ∧ (Intake.take { heard with tracker := { locked with anchor := some 9 } } least far).anchorGone = true ∧
      (Intake.take heard full far).dropped = 1 ∧
      marks neighbour { neighbour with life := .fading } = (2, 2) ∧ marks neighbour { neighbour with level := 3 } = (0, 0) ∧
      marks neighbour { neighbour with span := ⟨1, 4⟩ } = (2, 2) ∧ marks (oven (some 1)) (oven (some 2)) = (2, 0) ∧
      marks { neighbour with life := .tentative } { neighbour with life := .tentative, span := ⟨1, 4⟩ } = (0, 0) ∧
      (burst.record locked).emission = .cadenced 8000 (some 13000) ∧ (burst.record .reset).emission = .cadenced 8000 none := by
  decide +kernel

/-! ## Witnesses: the Cadence Tracker -/

/-- Lean adds a type only when the proofs above are checked, which bounds how many it checks at one time. -/
inductive Checkpoint11 where
  | reached

/-- A rise in FREE that names an oven and one that names none; in ACQUIRING one of another slot, one near the reference,
one an allowed period away and one further away. With a candidate: consistent after three periods, and at LOCK_COUNT;
inconsistent for the first time and for the third; and with a candidate that MAINS_NOMINAL no longer allows. -/
theorem test_meets_RiseStartsAcquisitionAndCandidate :
    let s := { heard with table := heard.table.set 0 (some (oven none)) }
    let acquiring := { s with tracker := { Tracker.reset with state := .acquiring, anchor := some 0, reference := some 0 } }
    let counting := fun (n outliers : Nat) => { acquiring with tracker := { acquiring.tracker with
      candidate := some 20000, consistent := n, outliers := outliers } }
    let rise := fun (s : State) (k : Slot) (t : AirTime) => (result (exec (.riseReport k t) s)).tracker
    (rise s 0 7).state = .acquiring ∧ rise s 1 7 = Tracker.reset ∧ rise acquiring 1 7 = acquiring.tracker ∧
      rise acquiring 0 400 = acquiring.tracker ∧ (rise acquiring 0 22000).candidate = some 22000 ∧
      rise acquiring 0 22001 = { acquiring.tracker with reference := some 22001 } ∧
      rise (counting 1 0) 0 400 = (counting 1 0).tracker ∧
      ([1, 2, 3, 4, 5, 6, 7, 8].filter fun j : Nat => (60060 - j * 20000 : Int).natAbs ≤ 60) = [3] ∧
      rise (counting 1 0) 0 60060 = { acquiring.tracker with
        candidate := some 20010, consistent := 2, reference := some 60060 } ∧
      (rise (counting 3 0) 0 20000).state = .locked ∧ (rise (counting 1 0) 0 30000).outliers = 1 ∧
      rise (counting 1 2) 0 30000 = { acquiring.tracker with reference := some 30000 } ∧
      rise ({ counting 3 0 with params := { Params.default with mainsNominal := .hz60 } }) 0 17000 =
        { acquiring.tracker with candidate := some 17000, consistent := 1, reference := some 17000 } := by decide +kernel

/-- A rise of the anchor at the end of EDGE_TOL in LOCKED and in HOLDOVER, and beyond it in HOLDOVER; an outlier in LOCKED,
and the fourth; and a rise of another slot in both states. -/
theorem test_meets_ConsistentRiseRefinesTheLock :
    let s := predicted heard
    let held := { s with tracker := { locked with state := .holdover } }
    let third := { s with tracker := { locked with outliers := 3 } }
    let rise := fun (s : State) (t : AirTime) => (result (exec (.riseReport 0 t) s)).tracker
    s.tracker.anchor = some 0 ∧ s.tracker.reference = some 0 ∧ (rise s 20400).period = 20025 ∧
      (rise s 20400).reference = some 20100 ∧ (rise held 20400).state = .locked ∧ rise held 20401 = held.tracker ∧
      result (exec (.riseReport 1 20400) s) = s ∧ result (exec (.riseReport 1 20400) held) = held ∧
      rise s 20401 = { locked with outliers := 1 } ∧
      rise third 20401 = { locked with
        state := .acquiring, candidate := some 20000, consistent := 1, reference := some 20401, holdover := none } ∧
      (result (exec (.riseReport 0 20401) third)).changed = 1 ∧
      (result (exec (.riseReport 0 20401) third)).handed =
        [.cadenceStateNotice, .attentionSetRequest .cadenceChange, .changeNotice 0] := by decide +kernel

theorem test_meets_EighthMissEntersHoldover :
    let s := { predicted heard with tracker := { locked with anchorMisses := 7 } }
    result (exec (.anchorMissReport 0) heard) = heard ∧
      (result (exec (.anchorMissReport 0) (predicted heard))).tracker.anchorMisses = 1 ∧
      (result (exec (.anchorMissReport 0) s)).tracker.state = .holdover := by decide +kernel

/-- The holdover timer one microsecond before its deadline and at it. -/
theorem test_meets_HoldoverExpiryFreesTheTracker :
    let s := { predicted heard with airTime := 10000000 }
    let early := { predicted heard with airTime := 9999999 }
    s.tracker.holdover = some 10000000 ∧ result (exec .holdoverExpiry early) = early ∧
      (result (exec .holdoverExpiry s)).tracker = Tracker.reset ∧ (result (exec .holdoverExpiry s)).changed = 1 := by
  decide +kernel

/-! ## Witnesses: control port and attention -/

/-- Lean adds a type only when the proofs above are checked, which bounds how many it checks at one time. -/
inductive Checkpoint12 where
  | reached

/-- The port in its three conditions: ready, a command in execution, a reset. -/
theorem test_meets_TransactionsCarryThePendingResponse :
    let resetting := { heard with ready := false }
    let executing := result (exec (.find 7) heard)
    let noResponse := (Response.mk .notReady []).shiftOut
    heard.ready = true ∧ resetting.ready = false ∧ resetting.answer = none ∧
      executing.ready = false ∧ executing.answer = some ⟨.notFound, []⟩ ∧ executing.response = ⟨.done, []⟩ ∧
      executing.readyEvents = [] ∧ (encodeTransaction .softReset).isSome = true ∧ Instr.nop.codeAndBody = some (0, []) ∧
      (result (exec .softReset resetting)).sdo = noResponse 2064 ∧ result (exec .notReady heard) = heard ∧
      (result (exec .notReady executing)).sdo = noResponse 2064 ∧
      (result (executing.transaction (bitsOfBytes (frameBytes 0x16 [])))).sdo = noResponse 24 ∧
      (result (exec .nop executing)).sdo = (Response.mk .notFound []).shiftOut 2064 ∧
      (result (State.happen .completion executing)).response = ⟨.notFound, []⟩ ∧
      (result (heard.transaction (bitsOfBytes (frameBytes 0x16 [])))).answer = some ⟨.done, scanBody heard⟩ ∧
      (result (exec (.checkFailed [true]) heard)).response.status = .checkFailed := by decide +kernel

/-- The bytes of SCAN, READ ATTENTION, READ PLANS and READ LANE, in a state that holds one of each item they list. -/
theorem test_meets_ReadsChangeNothing_bodies :
    let s := predicted (granting (onLane .draining [entry 8 10, entry 0 20]) [aGrant 5])
    let body := fun (s : State) (c : Instr) => (result (exec c s)).answered.body
    let flagged := fun (fs : List Flag) => fs.foldl (fun s f => result (exec (.attentionSetRequest f) s)) heard
    let masked := fun (s : State) => { s with params := { s.params with attentionMask := s.params.attentionMask.set 1 true } }
    let faults := flagged [.lane .linkFault .l2, .lane .linkFault .l1, .cadenceChange]
    (body s .scan).take 6 = [0, 1, 1, 0, 0xFF, 0xFF] ∧ (body s .scan).length = 66 ∧
      body heard .readAttention = [0, 0xFF, 0, 0, 0, 0, 0, 0, 0, 0] ∧
      body faults .readAttention = [2, 1, 0, 6, 0, 0, 0, 0, 2, 6] ∧
      body (masked faults) .readAttention = [8, 0xFF, 0, 6, 0, 0, 0, 0, 2, 6] ∧
      body (switching .switching [entry 0 10] ⟨.restore, 1, ⟨0, .w20⟩⟩) (.readPlans 0) =
        [0, 3, 0, 0x01, 0x2C, 0, 3, 1, 1, 1, 0, 20, 10, 0, 64] ∧
      body s (.readLane 0) = [2, 0, 2, 0, 20, 1, 5, 0, 0, 0x03, 0xE8, 0x01, 0xF4, 0, 20, 0, 0, 0, 0, 0, 0, 2, 0x01, 0x2C, 0,
        0, 0, 0x0D, 0xAC, 0x01, 0x2C, 0, 0, 0, 0, 0, 1] := by decide +kernel

/-- Each refusal of a command that reads: lane 3, slots beyond their tables, EMPTY and FREE slots, EVAL's position and ad-hoc
plan, and parameters; EVAL of an ad-hoc plan, FIND by alias, and READ of the group record. -/
theorem test_meets_ReadsChangeNothing_refusals :
    let s := withStation1 (predicted (onLane .settled [entry 8 10])) aStation
    let answers := fun (c : Instr) => (result (exec c s)).answered
    let refused := fun (c : Instr) => (answers c).status
    let adHoc := fun (primary width : Byte) => Instr.eval 0 (.adHoc ⟨primary, width⟩)
    let empty := fun (c : Instr) => (result (exec c heard)).answered.status
    (refused (.readPlans 3), refused (.readLane 3), refused (.eval 3 (.position 1))) =
        (.badArgument, .badArgument, .badArgument) ∧
      (refused (.interfererRead 31), refused (.interfererRead 32)) = (.notFound, .badArgument) ∧
      (refused (.stationRead 63), refused (.stationRead 64), refused (.find 6)) = (.notFound, .badArgument, .notFound) ∧
      (refused (.eval 0 (.position 0)), refused (.eval 0 (.position 7)), refused (.eval 0 (.position 2))) =
        (.badArgument, .badArgument, .notFound) ∧
      (refused (adHoc 13 20), refused (adHoc 20 20)) = (.badArgument, .badArgument) ∧
      (empty (.eval 0 (.position 6)), empty (adHoc 0 20)) = (.emptyStack, .emptyStack) ∧
      (refused (.getParameter 0 0), refused (.getParameter 32 0), refused (.getParameter 29 1)) =
        (.badArgument, .badArgument, .badArgument) ∧
      (refused (.getParameter 30 3), refused (.getParameter 31 0), refused (.getParameter 31 11)) =
        (.badArgument, .badArgument, .badArgument) ∧
      answers (.getParameter 31 10) = ⟨.done, [0, 0, 0, 0]⟩ ∧ answers (adHoc 0 20) = ⟨.done, [2, 33, 64]⟩ ∧
      answers (.find 4) = ⟨.done, [1, 1]⟩ ∧
      answers (.stationRead 0) = ⟨.done, [0, 0, 0, 3, 20, 0xFF, 0, 200, 0, 0, 0, 0xFF]⟩ := by decide +kernel

/-- EVAL at positions 1 and 6, READ of each table, and FIND of a primary and of a group address. -/
theorem test_meets_ReadsChangeNothing :
    let s := withStation1 (predicted (onLane .settled (List.replicate 6 (entry 8 10)))) aStation
    (withStation1 (predicted (onLane .settled (List.replicate 6 (entry 8 10)))) aStation).StationsOk ∧
      (result (exec (.eval 0 (.position 1)) s)).answered = ⟨.done, [1, 64, 64]⟩ ∧
      (result (exec (.eval 0 (.position 6)) s)).answered = ⟨.done, [1, 64, 64]⟩ ∧
      (result (exec (.interfererRead 0) s)).answered.body.length = 16 ∧
      (result (exec (.stationRead 1) s)).answered.body.length = 23 ∧
      (result (exec (.find 2) s)).answered = ⟨.done, [1, 0]⟩ ∧
      (result (exec (.find 0x010000000000) s)).answered = ⟨.done, [0, 2]⟩ :=
  ⟨one_station_ok _ rfl, by decide +kernel⟩

/-- A parameter at the ends of its range and beyond them, RETIRE_MISSES at FADE_MISSES and one above, GUARD_FLOOR at
GUARD_INITIAL and one above, a GUARD_CEILING that clamps, each other kind of parameter, a wrong qualifier and a wrong number,
and each mode. -/
theorem test_meets_SetParameterAndSetMode :
    let wide := heard.setGrant .l1 { GrantLane.reset 300 with edgeGuard := 950 }
    let set := fun (n q : Byte) (v : BitVec 32) => result (exec (.setParameter n q v) wide)
    let done := fun (n q : Byte) (v : BitVec 32) => decide ((set n q v).answered.status = .done)
    let mode := fun (m : Byte) => result (exec (.setMode m) { heard with mode := .bypass })
    heard.params.Ok ∧ heard.GuardsOk ∧
      (done 2 0 1, done 2 0 2, done 2 0 8, done 2 0 9) = (false, true, true, false) ∧
      (done 11 0 8, done 11 0 9, done 10 0 31, done 10 0 32) = (false, true, true, false) ∧
      (done 14 0 300, done 14 0 301, done 15 0 299, done 16 0 1001) = (true, false, false, false) ∧
      ((set 15 0 900).grants.get .l1).edgeGuard = 900 ∧ (set 15 0 900).handed = [.guardChangeNotice .l1] ∧
      (set 1 0 50).params.mainsNominal = .hz50 ∧ (set 1 0 60).params.mainsNominal = .hz60 ∧
      (done 1 0 0, done 1 0 51, done 28 0 1, done 29 0 2) = (true, false, true, false) ∧
      (set 30 2 0).params.holdoff.l2 = false ∧ (done 30 3 0, done 31 0 1, done 31 11 1) = (false, false, false) ∧
      (set 31 10 1).params.attentionMask.toList.getLast? = some true ∧
      (done 0 0 1, done 32 0 1, done 4 1 10) = (false, false, false) ∧
      (result (exec (.getParameter 4 0) heard)).answered = ⟨.done, [0, 0, 0, 10]⟩ ∧
      (mode 0).handed = [.modeNotice] ∧ (mode 1).handed = [] ∧ (mode 2).answered.status = .badArgument :=
  ⟨default_params_ok, by intro l; cases l <;> decide, by decide +kernel⟩

/-- CLEAR ATTENTION of a flag of lane 2, and refused for lane 3 and for a derived condition; TAKE CHANGES; ATTN with a flag
pending, masked, and with a set that is not empty. -/
theorem test_meets_AttentionFlagsAndSets :
    let shed := result (exec (.attentionSetRequest (.lane .stackShed .l2)) heard)
    let s := { shed with changed := 0x80000001 }
    let cleared := fun (b : FlagBytes) => result (exec (.clearAttention b) s)
    let masked := fun (s : State) => { s with params := { s.params with attentionMask := s.params.attentionMask.set 4 true } }
    s.flags.get (.lane .stackShed .l2) = true ∧ heard.attnLow = false ∧ shed.attnLow = true ∧
      (masked shed).attnLow = false ∧ (masked s).attnLow = true ∧
      (cleared ⟨0, 0, 0, 0, 4, 0, 0⟩).flags = Flags.clear ∧ (cleared ⟨0, 0, 0, 0, 8, 0, 0⟩).answered.status = .badArgument ∧
      (cleared ⟨0, 0, 0, 0, 0, 0, 4⟩).answered.status = .badArgument ∧
      (result (exec .takeChanges s)).answered = ⟨.done, [1, 0, 0, 0x80, 0, 0, 0, 0, 0, 0, 0, 0]⟩ := by decide +kernel

/-! ## Witnesses: spans -/

/-- Lean adds a type only when the proofs above are checked, which bounds how many it checks at one time. -/
inductive Checkpoint13 where
  | reached

/-- Spans of one slice that meet and that do not, and a clear fraction UNKNOWN, known and compared. -/
theorem test_meets_OverlapAndUnionCountPoints_and_ClearFractions :
    (Span.mk 5 1).overlap ⟨5, 1⟩ = 1 ∧ (Span.mk 5 1).overlap ⟨6, 1⟩ = 0 ∧ (Span.mk 0 4).valid = true ∧
      heard.clearFraction ⟨0, 4⟩ 300 = some 64 ∧ State.reset.clearFraction ⟨0, 4⟩ 300 = none ∧
      heard.tracker.state = .free ∧ compareFractions (some 1) (some 0) = .better := by decide +kernel

/-- The fractions of the chapter's worked example, while the tracker is predicting: one oven, and two whose guarded bursts
overlap on the circle. -/
theorem test_meets_ClearFractions_predicting :
    let on := fun (o φ : Nat) => some { oven (some φ) with emission := .cadenced o (some φ), span := ⟨10, 4⟩ }
    let one := { predicted heard with table := (Vector.replicate 32 none).set 0 (on 9000 4000) }
    let two := { one with table := one.table.set 2 (on 6000 12000) }
    one.tracker.state = .locked ∧ one.clearFraction ⟨10, 4⟩ 300 = some 33 ∧ two.clearFraction ⟨10, 4⟩ 300 = some 17 ∧
      unionLength 20000 (two.blockingArcs ⟨10, 4⟩ 300) = 14600 := by decide +kernel

end Sys2Proof.Tests
end

/-! Spans and circular intervals count points (R3, R9). The slices two spans share are an interval of the naturals. On
the circle, each interval is cut into pieces that do not wrap; the sweep over the pieces in ascending order of their
starts counts each point of their union once, since a later piece holds no point below the start of an earlier one. -/

namespace Sys2Proof.Machine

/-- Both sides of the statements count the numbers below a bound that pass a test. -/
theorem length_filter_range (n : Nat) (f : Nat → Bool) :
    ((List.range n).filter f).length = ((Finset.range n).filter fun x => f x = true).card := by
  rw [← Nat.count_eq_card_filter_range, Nat.count, List.countP_eq_length_filter]
  simp

/-! ## Spans (R3) -/

namespace Span

/-- The slices that two spans share. -/
def shared (a b : Span) : Finset Nat :=
  Finset.Ico (max a.first b.first) (min (a.first + a.count) (b.first + b.count))

theorem mem_shared {a b : Span} {i : Nat} :
    i ∈ a.shared b ↔ a.first ≤ i ∧ i < a.first + a.count ∧ b.first ≤ i ∧ i < b.first + b.count := by
  simp only [shared, Finset.mem_Ico]
  omega

theorem card_shared (a b : Span) : (a.shared b).card = a.overlap b :=
  Nat.card_Ico _ _

theorem overlap_eq_length_filter (a b : Span) :
    a.overlap b = ((List.range (a.first + a.count + b.first + b.count)).filter fun i =>
      decide (a.first ≤ i ∧ i < a.first + a.count ∧ b.first ≤ i ∧ i < b.first + b.count)).length := by
  rw [length_filter_range, ← card_shared]
  congr 1
  ext i
  simp only [mem_shared, Finset.mem_filter, Finset.mem_range, decide_eq_true_eq]
  omega

theorem overlaps_iff (a b : Span) :
    a.overlaps b = true ↔
      ∃ i, a.first ≤ i ∧ i < a.first + a.count ∧ b.first ≤ i ∧ i < b.first + b.count := by
  rw [overlaps, decide_eq_true_eq, ← card_shared, Finset.card_pos]
  exact exists_congr fun _ => mem_shared

/-- The amount in the words of R3: from the greater first slice to the lesser last slice. -/
theorem overlap_eq_lastSlices (a b : Span) :
    let shared : Int := min ((a.first : Int) + a.count - 1) (b.first + b.count - 1) - max (a.first : Int) b.first + 1
    (a.overlap b : Int) = if 0 < shared then shared else 0 := by
  simp only [overlap]
  omega

end Span

/-! ## The sweep over pieces (R9) -/

/-- The points that some piece holds. -/
def piecePoints (pieces : List (Nat × Nat)) : Finset Nat :=
  pieces.toFinset.biUnion fun q => Finset.Ico q.1 q.2

theorem mem_piecePoints {pieces : List (Nat × Nat)} {x : Nat} :
    x ∈ piecePoints pieces ↔ ∃ q ∈ pieces, q.1 ≤ x ∧ x < q.2 := by
  simp [piecePoints]

theorem insertPiece_eq_orderedInsert (x : Nat × Nat) (pieces : List (Nat × Nat)) :
    insertPiece x pieces = pieces.orderedInsert (Prod.fst ⁻¹'o (· ≤ ·)) x := by
  induction pieces with
  | nil => rfl
  | cons y ys ih => rw [insertPiece, List.orderedInsert_cons, ih]; rfl

theorem sortPieces_eq_insertionSort (pieces : List (Nat × Nat)) :
    sortPieces pieces = pieces.insertionSort (Prod.fst ⁻¹'o (· ≤ ·)) := by
  induction pieces with
  | nil => rfl
  | cons x xs ih => rw [sortPieces, List.insertionSort_cons, ih, insertPiece_eq_orderedInsert]

theorem pairwise_sortPieces (pieces : List (Nat × Nat)) :
    (sortPieces pieces).Pairwise (Prod.fst ⁻¹'o (· ≤ ·)) := by
  rw [sortPieces_eq_insertionSort]
  exact List.pairwise_insertionSort _ pieces

theorem piecePoints_sortPieces (pieces : List (Nat × Nat)) :
    piecePoints (sortPieces pieces) = piecePoints pieces := by
  ext x
  simp only [mem_piecePoints, sortPieces_eq_insertionSort, List.mem_insertionSort]

/-- Beyond the point reached, the points are those of the first piece and, past its end, those of the rest: the rest
starts no earlier, so below that end it holds only points of the first piece. -/
theorem piecePoints_cons_beyond {a b reach : Nat} {rest : List (Nat × Nat)} (later : ∀ q ∈ rest, a ≤ q.1) :
    (piecePoints ((a, b) :: rest)).filter (reach ≤ ·) =
      Finset.Ico (max a reach) b ∪ (piecePoints rest).filter (max reach b ≤ ·) := by
  ext x
  simp only [Finset.mem_filter, Finset.mem_union, Finset.mem_Ico, mem_piecePoints, List.mem_cons, exists_eq_or_imp]
  constructor
  · rintro ⟨first | ⟨q, hq, from_le, lt_to⟩, beyond⟩
    · exact .inl (by omega)
    · have start := later q hq
      rcases Nat.lt_or_ge x b with below | past
      · exact .inl (by omega)
      · exact .inr ⟨⟨q, hq, from_le, lt_to⟩, by omega⟩
  · rintro (first | ⟨inRest, beyond⟩)
    · exact ⟨.inl (by omega), by omega⟩
    · exact ⟨.inr inRest, by omega⟩

theorem sweepPieces_eq_card (reach : Nat) (pieces : List (Nat × Nat))
    (sorted : pieces.Pairwise (Prod.fst ⁻¹'o (· ≤ ·))) :
    sweepPieces reach pieces = ((piecePoints pieces).filter (reach ≤ ·)).card := by
  induction pieces generalizing reach with
  | nil => rfl
  | cons piece rest ih =>
    obtain ⟨a, b⟩ := piece
    obtain ⟨later, sortedRest⟩ := List.pairwise_cons.mp sorted
    have apart : Disjoint (Finset.Ico (max a reach) b) ((piecePoints rest).filter (max reach b ≤ ·)) := by
      rw [Finset.disjoint_left]
      intro x first beyond
      have lt := (Finset.mem_Ico.mp first).2
      have le := (Finset.mem_filter.mp beyond).2
      omega
    rw [piecePoints_cons_beyond later, Finset.card_union_of_disjoint apart, Nat.card_Ico, sweepPieces,
      ih _ sortedRest]

/-! ## Circular intervals and their pieces (R9) -/

theorem onCircle_lt {p : Nat} (pos : 0 < p) (a : Int) : onCircle p a < p := by
  have lt := Int.emod_lt_of_pos a (Int.natCast_pos.mpr pos)
  unfold onCircle
  omega

theorem onCircle_add_period (p : Nat) (a : Int) : onCircle p (a + p) = onCircle p a := by
  rw [onCircle, onCircle, Int.add_emod_right]

theorem onCircle_of_lt {p x : Nat} (h : x < p) : onCircle p x = x := by
  rw [onCircle, ← Int.natCast_emod, Nat.mod_eq_of_lt h, Int.toNat_natCast]

theorem onCircle_sub_onCircle {p : Nat} (pos : 0 < p) (x a : Int) :
    onCircle p (x - onCircle p a) = onCircle p (x - a) := by
  have reduced : (onCircle p a : Int) = a % p :=
    Int.toNat_of_nonneg (Int.emod_nonneg a (by omega))
  rw [reduced, onCircle, onCircle, Int.sub_emod_emod]

/-- A point at or after a start on the circle lies past it by their difference. -/
theorem onCircle_sub_of_le {p x : Nat} {a : Int} (h : x < p) (le : onCircle p a ≤ x) :
    onCircle p (x - a) = x - onCircle p a := by
  rw [← onCircle_sub_onCircle (by omega), ← Int.natCast_sub le, onCircle_of_lt (by omega)]

/-- A point before a start on the circle is reached from it once around. -/
theorem onCircle_sub_of_lt {p x : Nat} {a : Int} (pos : 0 < p) (lt : x < onCircle p a) :
    onCircle p (x - a) = x + p - onCircle p a := by
  have start := onCircle_lt pos a
  rw [← onCircle_sub_onCircle pos, ← onCircle_add_period,
    show (x : Int) - onCircle p a + p = ((x + p - onCircle p a : Nat) : Int) by omega, onCircle_of_lt (by omega)]

/-- The pieces of an interval lie on the circle and hold the points that it covers. -/
theorem Arc.mem_piecePoints_pieces {p : Nat} (pos : 0 < p) (c : Arc) (x : Nat) :
    x ∈ piecePoints (c.pieces p) ↔ x < p ∧ c.covers p x = true := by
  have start := onCircle_lt pos c.start
  have distance := onCircle_lt pos (x - c.start)
  have past := @onCircle_sub_of_le p x c.start
  have around := @onCircle_sub_of_lt p x c.start pos
  simp only [mem_piecePoints, Arc.covers, decide_eq_true_eq, Arc.pieces]
  split
  next whole =>
    simp only [List.mem_singleton, exists_eq_left]
    omega
  next part =>
    split
    next inside =>
      simp only [List.mem_singleton, exists_eq_left]
      omega
    next wraps =>
      simp only [List.mem_cons, List.not_mem_nil, or_false, exists_eq_or_imp, exists_eq_left]
      omega

theorem unionLength_eq_card (p : Nat) (arcs : List Arc) :
    unionLength p arcs = (piecePoints (arcs.flatMap (Arc.pieces p))).card := by
  rw [unionLength, sweepPieces_eq_card 0 _ (pairwise_sortPieces _), piecePoints_sortPieces]
  simp

theorem mem_piecePoints_flatMap {f : Arc → List (Nat × Nat)} {arcs : List Arc} {x : Nat} :
    x ∈ piecePoints (arcs.flatMap f) ↔ ∃ c ∈ arcs, x ∈ piecePoints (f c) := by
  simp only [mem_piecePoints, List.mem_flatMap]
  constructor
  · rintro ⟨q, ⟨c, hc, hq⟩, held⟩
    exact ⟨c, hc, q, hq, held⟩
  · rintro ⟨c, hc, q, hq, held⟩
    exact ⟨q, ⟨c, hc, hq⟩, held⟩

theorem unionLength_eq_length_filter {p : Nat} (pos : 0 < p) (arcs : List Arc) :
    unionLength p arcs = ((List.range p).filter fun x => arcs.any fun c => c.covers p x).length := by
  rw [unionLength_eq_card, length_filter_range]
  congr 1
  ext x
  simp only [mem_piecePoints_flatMap, Arc.mem_piecePoints_pieces pos, Finset.mem_filter, Finset.mem_range,
    List.any_eq_true, and_left_comm, exists_and_left]

/-- Settles O59: the shared slices are an interval of the naturals, whose size the overlap amount is, and the sweep over
the sorted pieces of the intervals counts each covered point of the circle once. -/
theorem overlapAndUnionCountPoints : Obligations.OverlapAndUnionCountPoints := by
  unfold Obligations.OverlapAndUnionCountPoints
  exact ⟨fun a b => ⟨a.overlap_eq_length_filter b, fun _ _ => a.overlap_eq_lastSlices b, a.overlaps_iff b⟩,
    fun _ arcs pos => unionLength_eq_length_filter pos arcs⟩

end Sys2Proof.Machine

/-! Clear fractions (R98 to R100). The sums and unions over the counting records that overlap a span, said over the slots
of the table; what a known clear fraction is while the tracker is predicting and while it is not; Table 6-5. -/

namespace Sys2Proof.Machine

/-! ## The records of the table and what they block (R28, R34) -/

theorem Arc.covers_eq_decide {p : Nat} (pos : 0 < p) (a : Arc) (x : Nat) :
    a.covers p x = decide (((x : Int) - a.start) % p < a.length) := by
  have nonneg := Int.emod_nonneg ((x : Int) - a.start) (Int.natCast_pos.mpr pos).ne'
  rw [Arc.covers, onCircle, decide_eq_decide]
  omega

/-- The record counts, overlaps the span, and its guarded on-interval holds the point of the circle (R28, R98). -/
def Interferer.blocks (r : Interferer) (c : Span) (g p x : Nat) : Bool :=
  r.counting && r.span.overlaps c && (r.onArc g).any fun a => a.covers p x

namespace State

variable {s : State} {c : Span} {g : Nat}

theorem records_eq_filterMap (s : State) :
    s.records = (List.finRange 32).filterMap fun k => s.table[k] := by
  have slots : s.table.toList = (List.finRange 32).map fun k => s.table[k] :=
    List.ext_getElem (by simp) (by simp)
  rw [records, slots, List.filterMap_map, Function.id_comp]

theorem any_records (s : State) (f : Interferer → Bool) :
    s.records.any f = (List.finRange 32).any fun k => s.table[k].any f := by
  rw [records_eq_filterMap, List.any_filterMap]
  refine List.any_congr rfl fun k => ?_
  cases s.table[k] <;> rfl

theorem sum_countingOver (s : State) (c : Span) (f : Interferer → Nat) :
    ((s.countingOver c).map f).sum =
      (s.records.map fun r => if r.counting && r.span.overlaps c then f r else 0).sum := by
  simp [countingOver, List.sum_map_ite]

theorem any_blockingArcs (s : State) (c : Span) (g p x : Nat) :
    (s.blockingArcs c g).any (fun a => a.covers p x) = s.records.any fun r => r.blocks c g p x := by
  rw [blockingArcs, countingOver, List.any_filterMap, List.any_filter]
  refine List.any_congr rfl fun r => ?_
  rw [Interferer.blocks]
  cases r.onArc g <;> rfl

/-! ## The parts of a clear fraction (R98 to R100) -/

theorem unheard_iff (valid : c.valid = true) :
    s.unheard c = true ↔
      ∃ i : Fin 48, c.first ≤ i.val ∧ i.val < c.first + c.count ∧ s.params.coverageLimit < s.coverage[i] := by
  have inBand : c.first + c.count ≤ 48 := by
    simp only [Span.valid, Bool.and_eq_true, Bool.or_eq_true, decide_eq_true_eq] at valid
    omega
  simp only [unheard, Span.slices, List.any_map, List.any_eq_true, List.mem_range, Function.comp_apply,
    decide_eq_true_eq]
  constructor
  · rintro ⟨j, lt, old⟩
    rw [Vector.getElem?_eq_getElem (by omega), Option.getD_some] at old
    exact ⟨⟨c.first + j, by omega⟩, Nat.le_add_right .., Nat.add_lt_add_left lt _, old⟩
  · rintro ⟨i, le, lt, old⟩
    refine ⟨i - c.first, by omega, ?_⟩
    rw [Nat.add_sub_cancel' le, Vector.getElem?_eq_getElem i.isLt]
    exact old

theorem dutySum_of_contribution {f : Interferer → Nat}
    (adds : ∀ r, r.contribution s.tracker.predicting s.tracker.period g = f r) :
    s.dutySum c g = min 64 (((List.finRange 32).filterMap fun k => s.table[k]).map fun r =>
      if r.counting && r.span.overlaps c then f r else 0).sum := by
  simp only [dutySum, sum_countingOver, adds, records_eq_filterMap]

theorem blockedLength_of_blocks {f : Nat → Interferer → Bool} (pos : 0 < s.tracker.period)
    (on : s.tracker.predicting = true) (blocks : ∀ x r, r.blocks c g s.tracker.period x = f x r) :
    s.blockedLength c g =
      ((List.range s.tracker.period).filter fun x => (List.finRange 32).any fun k => s.table[k].any (f x)).length := by
  simp only [blockedLength, on, if_true, unionLength_eq_length_filter pos, any_blockingArcs, any_records, blocks]

theorem blockedLength_of_not_predicting (off : s.tracker.predicting = false) : s.blockedLength c g = 0 := by
  rw [blockedLength, off]
  rfl

/-! ## The clear fraction (R98 to R100) -/

theorem clearFraction_eq_none_iff : s.clearFraction c g = none ↔ s.unheard c = true := by
  simp [clearFraction]

theorem eq_of_clearFraction_eq_some {q : Nat} (known : s.clearFraction c g = some q) :
    q = (s.tracker.period - s.blockedLength c g) * (64 - s.dutySum c g) / s.tracker.period := by
  rw [clearFraction, Option.ite_none_left_eq_some] at known
  exact (Option.some.inj known.2).symm

/-- With U = 0 the period cancels (R99). -/
theorem eq_of_clearFraction_eq_some_of_not_predicting {q : Nat} (pos : 0 < s.tracker.period)
    (off : s.tracker.predicting = false) (known : s.clearFraction c g = some q) : q = 64 - s.dutySum c g := by
  rw [eq_of_clearFraction_eq_some known, blockedLength_of_not_predicting off, Nat.sub_zero,
    Nat.mul_div_cancel_left _ pos]

end State

/-! ## The statement -/

theorem Tracker.Ok.period_pos {t : Tracker} (ok : t.Ok) : 0 < t.period := by
  have low := ok.periodLow
  omega

theorem Tracker.not_predicting {t : Tracker} (state : t.state = .free ∨ t.state = .acquiring) :
    t.predicting = false := by
  rcases state with free | acquiring
  · rw [predicting, free]
  · rw [predicting, acquiring]

/-- Table 6-5, for two known clear fractions. -/
theorem compareFractions_some (a b : Nat) :
    (b < a → compareFractions (some a) (some b) = .better) ∧
      (a = b → compareFractions (some a) (some b) = .equal) ∧ (a < b → compareFractions (some a) (some b) = .worse) := by
  refine ⟨fun greater => if_pos greater, fun equal => ?_, fun less => ?_⟩
  · exact (if_neg equal.not_gt).trans (if_pos equal)
  · exact (if_neg less.not_gt).trans (if_neg less.ne)

/-- Settles O60: the records are those of the slots, each kind of emission adds what the model's contribution gives it,
and U counts the points of the circle in some blocking interval, as the union of intervals does. -/
theorem clearFractionsKnownAndCompared : Obligations.ClearFractionsKnownAndCompared := by
  unfold Obligations.ClearFractionsKnownAndCompared
  refine ⟨fun s c g valid => ⟨?unknown, ?unpredicted, ?predicted⟩, fun _ => rfl, ?unordered, compareFractions_some⟩
  case unknown => exact State.clearFraction_eq_none_iff.trans (State.unheard_iff valid)
  case unpredicted =>
    intro ok state q known
    have off := Tracker.not_predicting state
    rw [State.eq_of_clearFraction_eq_some_of_not_predicting ok.period_pos off known]
    refine congrArg (64 - ·) (State.dutySum_of_contribution fun r => ?_)
    rw [Interferer.contribution, off]
    cases r.emission <;> rfl
  case predicted =>
    intro ok state q known blocks u d
    have pos := ok.period_pos
    have on := s.tracker.predicting_iff.mpr state
    have blocked : s.blockedLength c g = u := by
      refine State.blockedLength_of_blocks pos on fun x r => ?_
      simp only [Interferer.blocks, Interferer.onArc, blocks]
      rcases r.emission with ⟨o, _ | φ⟩ | _ | _
      case cadenced.some => rw [Option.any_some, Arc.covers_eq_decide pos]; rfl
      all_goals rfl
    have duties : s.dutySum c g = d := by
      refine State.dutySum_of_contribution fun r => ?_
      rw [Interferer.contribution, on]
      rcases r.emission with ⟨o, _ | φ⟩ | _ | _ <;> rfl
    rw [State.eq_of_clearFraction_eq_some known, blocked, duties]
  case unordered => exact fun q => by cases q <;> rfl

end Sys2Proof.Machine

/-! The ids of the grants that a QUERY gives (R138). Each operation on the way of a QUERY either keeps the lanes' grants or
records one GO on the lane of the QUERY, and the id of a GO is the one that R138 gives. -/

namespace Sys2Proof.Machine

/-! ## What a QUERY does to the lanes' grants -/

/-- The lane's grants after a GO that creates the grant (R137, R138). -/
def GrantLane.granted (g : GrantLane) (x : Grant) : GrantLane :=
  { g with outstanding := g.outstanding ++ [x], nextId := x.id + 1 }

/-- From the one to the other, no lane's grants change, or the lane named, with a grant slot free, is given one grant under
the id it takes next (R126, R138). -/
inductive GrantsMoved (l : Lane) (before after : PerLane GrantLane) : Prop where
  | kept (same : after = before)
  | granted (x : Grant) (free : (before.get l).outstanding.length < Config.grantSlots)
      (id : x.id = (before.get l).takeId) (moved : after = before.set l ((before.get l).granted x))

namespace State

@[simp] theorem sendOut_grants (s : State) (src : Block) (l : Lane) (m : OutMsg) :
    (s.sendOut src l m).grants = s.grants := by
  obtain ⟨_, _, sent⟩ := s.sendOut_frame src l m
  rw [sent]

@[simp] theorem answerQuery_grants (s : State) (l : Lane) (m : OutMsg) : (s.answerQuery l m).grants = s.grants :=
  s.sendOut_grants .gre l m

theorem issue_grants (s : State) (l : Lane) (x : Grant) :
    (s.issue l x).grants = s.grants.set l ((s.grants.get l).granted x) := by
  rw [issue, answerQuery_grants, setGrant_grants, GrantLane.granted]

/-- Stages 3 to 7 give a grant exactly when they have an offer. -/
theorem grantQuery_moves (s : State) (l : Lane) (top : PlanSpan) (q : Query)
    (free : (s.grants.get l).outstanding.length < Config.grantSlots) :
    GrantsMoved l s.grants (s.grantQuery l top q).grants := by
  simp only [grantQuery]
  split
  case h_1 => exact .granted _ free rfl (s.issue_grants l _)
  case h_2 => exact .kept (s.answerQuery_grants l _)

/-- Stages 1 and 2 let an evaluation through to a grant on a SETTLED lane with a slot free only. -/
theorem evaluate_moves (s : State) (l : Lane) (q : Query) : GrantsMoved l s.grants (s.evaluate l q).grants := by
  unfold evaluate
  cases (s.plans.get l).state
  case settled =>
    dsimp only
    split
    case isTrue => exact .kept (s.answerQuery_grants l _)
    case isFalse free =>
      split
      case h_1 e _ => exact s.grantQuery_moves l e.plan q (Nat.lt_of_not_le free)
      case h_2 => exact .kept rfl
  all_goals exact .kept (s.answerQuery_grants l _)

theorem takeQuery_moves (s : State) (l : Lane) : GrantsMoved l s.grants (s.takeQuery l).grants := by
  simp only [takeQuery]
  split
  case h_1 => exact .kept rfl
  case h_2 =>
    split
    case h_1 q _ => exact evaluate_moves { s.emptyHolder l with arbiter := l } l q
    case h_2 => exact .kept (sendOut_grants { s.emptyHolder l with arbiter := l } .gre l _)

end State

/-- A QUERY moves the grants of one lane at most. -/
theorem execQuery_moves {s t : State} (run : exec .query s = .next t) : ∃ l, GrantsMoved l s.grants t.grants := by
  have step : execQuery s = .next t := run
  cases running : s.resetN with
  | false =>
    rw [execQuery, event_of_reset s _ running] at step
    cases step
    exact ⟨.l0, .kept rfl⟩
  | true =>
    rw [execQuery, event_of_running s _ running] at step
    cases step
    cases s.queryLane with
    | none => exact ⟨.l0, .kept rfl⟩
    | some l => exact ⟨l, s.takeQuery_moves l⟩

/-! ## The statement -/

/-- Settles O36: a QUERY that grants nothing keeps every lane's grants; one that grants sets those of its lane alone, and
there the id is the next one, or the one after it when an outstanding grant holds that. -/
theorem grantIdsAreAssignedInTurn : Obligations.GrantIdsAreAssignedInTurn := by
  unfold Obligations.GrantIdsAreAssignedInTurn
  intro s t run l
  obtain ⟨taken, same | ⟨x, free, id, moved⟩⟩ := execQuery_moves run
  · exact .inl (by simp [same])
  · by_cases lane : l = taken
    · subst lane
      rw [moved, PerLane.get_set_same]
      exact .inr ⟨x, rfl, free, id, rfl⟩
    · rw [moved, PerLane.get_set_ne _ _ lane]
      exact .inl ⟨rfl, rfl⟩

end Sys2Proof.Machine

/-! The expiry of a grant's timer (R146). The lane's first grant with the id is the one that closes; what its closure and
the drain notice change is said of every closing code, since an OUTCOME closes a grant in the same way (R143). -/

namespace Sys2Proof.Machine.State

/-! ## Closing one outstanding grant (R143) -/

section

variable {s : State} {l : Lane} {id : Byte} {before after : List Grant} {x : Grant}

theorem findGrant_of_split (split : (s.grants.get l).outstanding = before ++ x :: after) (named : x.id = id)
    (first : ∀ y ∈ before, y.id ≠ id) : s.findGrant l id = some x :=
  List.find?_eq_some_iff_append.mpr ⟨beq_iff_eq.mpr named, before, after, split, fun y hy => by simp [first y hy]⟩

theorem removeGrant_of_split (split : (s.grants.get l).outstanding = before ++ x :: after) (named : x.id = id)
    (first : ∀ y ∈ before, y.id ≠ id) (code : ClosingCode) (used : Option Nat) :
    s.removeGrant l id code used = s.setGrant l { s.grants.get l with
      outstanding := before ++ after, lastClosure := some ⟨id, code, used⟩ } := by
  have erased : (before ++ x :: after).eraseP (·.id == id) = before ++ after := by
    rw [List.eraseP_append_right _ fun y hy => by simp [first y hy]]
    simp [named]
  rw [removeGrant, split, erased]

/-- With no soft reset in progress, the drain notice of a closure is handed exactly when the lane has no outstanding grant
left (R105). -/
theorem noticeDrain_of_none (settled : s.resets = []) :
    s.noticeDrain l = { s with
      handed := s.handed ++ if (s.grants.get l).outstanding = [] then [.drainNotice l] else [] } := by
  rw [noticeDrain]
  by_cases empty : (s.grants.get l).outstanding = []
  · rw [if_pos (List.isEmpty_iff.mpr empty), if_pos empty, hand_of_none s settled]
  · rw [if_neg (mt List.isEmpty_iff.mp empty), if_neg empty, List.append_nil]

/-! ## The expiry timer (R146) -/

theorem expireGrant_of_due (found : s.findGrant l id = some x) (due : atOrAfter s.airTime x.expiry = true) :
    s.expireGrant l id = (s.removeGrant l id .expired none).noticeDrain l := by
  rw [expireGrant, found]
  exact if_pos due

end

end Sys2Proof.Machine.State

namespace Sys2Proof.Machine

/-! ## The statement -/

/-- Settles O40: the grant whose timer is due is the first with its id, so the expiry is its closure with EXPIRED followed
by the drain notice, which set the lane's outstanding grants, its last closure and the handed work alone. -/
theorem expiryClosesTheGrant : Obligations.ExpiryClosesTheGrant := by
  unfold Obligations.ExpiryClosesTheGrant
  intro s l id before after x running settled split named first due
  have found := State.findGrant_of_split split named first
  calc exec (.grantExpiry l id) s
    _ = .next (s.expireGrant l id) := event_of_running s (fun s => s.expireGrant l id) running
    _ = .next ((s.removeGrant l id .expired none).noticeDrain l) := by rw [State.expireGrant_of_due found due]
    _ = _ := by
      rw [State.removeGrant_of_split split named first,
        State.noticeDrain_of_none ((s.setGrant_resets l _).trans settled), State.setGrant_grants, PerLane.get_set_same]
      rfl

end Sys2Proof.Machine

/-! Footprints. Every field of the state is a part; an operation changes no part outside its footprint. Each shared operation
has its footprint said once, then every command has one (`exec_changesOnly`), and what a step can be is said once
(`step_cases`). The invariants need a look only at the commands whose footprint meets them. -/

namespace Sys2Proof.Machine

open Sys2Proof

/-! ## Parts of the state -/

/-- The fields of the state. -/
inductive Part where
  | resetN | airTime | tick | ready | response | answer | clocks | sdo | params | mode | startCause | flags | changed
  | advised | resets | tracker | table | coverage | stations | plans | arbiter | grants | links | handed | choices | pending
  deriving DecidableEq

/-- Two states have the same value in a part. -/
def State.sameAt (s t : State) (p : Part) : Prop :=
  match p with
  | .resetN => t.resetN = s.resetN
  | .airTime => t.airTime = s.airTime
  | .tick => t.tick = s.tick
  | .ready => t.ready = s.ready
  | .response => t.response = s.response
  | .answer => t.answer = s.answer
  | .clocks => t.clocks = s.clocks
  | .sdo => t.sdo = s.sdo
  | .params => t.params = s.params
  | .mode => t.mode = s.mode
  | .startCause => t.startCause = s.startCause
  | .flags => t.flags = s.flags
  | .changed => t.changed = s.changed
  | .advised => t.advised = s.advised
  | .resets => t.resets = s.resets
  | .tracker => t.tracker = s.tracker
  | .table => t.table = s.table
  | .coverage => t.coverage = s.coverage
  | .stations => t.stations = s.stations
  | .plans => t.plans = s.plans
  | .arbiter => t.arbiter = s.arbiter
  | .grants => t.grants = s.grants
  | .links => t.links = s.links
  | .handed => t.handed = s.handed
  | .choices => t.choices = s.choices
  | .pending => t.pending = s.pending

/-- Nothing outside the parts listed differs between the two states. -/
def ChangesOnly (w : List Part) (s t : State) : Prop := ∀ p, p ∉ w → s.sameAt t p

namespace ChangesOnly

variable {v w : List Part} {s t u : State}

theorem refl (w : List Part) (s : State) : ChangesOnly w s s := fun p _ => by cases p <;> rfl

theorem trans (first : ChangesOnly w s t) (second : ChangesOnly w t u) : ChangesOnly w s u := fun p out => by
  have a := first p out
  have b := second p out
  cases p <;> exact Eq.trans b a

theorem mono (h : ChangesOnly v s t) (sub : v ⊆ w) : ChangesOnly w s t := fun p out => h p fun i => out (sub i)

/-- A choice between two states. -/
theorem ite {c : Prop} [Decidable c] (yes : ChangesOnly w s t) (no : ChangesOnly w s u) :
    ChangesOnly w s (if c then t else u) := by
  split
  · exact yes
  · exact no

end ChangesOnly

/-! ## The footprints of the shared operations -/

namespace State

variable (s : State)

theorem changesOnly_handed (h : List Handed) : ChangesOnly [.handed] s { s with handed := h } := by
  intro p out; cases p <;> first | exact (out (by decide)).elim | rfl

theorem changesOnly_links (k : PerLane LinkLane) (h : List Handed) :
    ChangesOnly [.links, .handed] s { s with links := k, handed := h } := by
  intro p out; cases p <;> first | exact (out (by decide)).elim | rfl

theorem changesOnly_grants (g : PerLane GrantLane) (h : List Handed) :
    ChangesOnly [.grants, .handed] s { s with grants := g, handed := h } := by
  intro p out; cases p <;> first | exact (out (by decide)).elim | rfl

theorem changesOnly_plans (x : PerLane PlanLane) (k : PerLane LinkLane) (h : List Handed) :
    ChangesOnly [.plans, .links, .handed] s { s with plans := x, links := k, handed := h } := by
  intro p out; cases p <;> first | exact (out (by decide)).elim | rfl

theorem changesOnly_claim (t : Tracker) (b : Vector (Option Interferer) 32) (c : BitVec 32) (h : List Handed) :
    ChangesOnly [.tracker, .table, .changed, .handed] s
      { s with tracker := t, table := b, changed := c, handed := h } := by
  intro p out; cases p <;> first | exact (out (by decide)).elim | rfl

theorem changesOnly_stations (x : Vector (Option Station) 63) (a : BitVec 64) :
    ChangesOnly [.stations, .advised] s { s with stations := x, advised := a } := by
  intro p out; cases p <;> first | exact (out (by decide)).elim | rfl

theorem hand_changesOnly (src : Block) (x : Handed) : ChangesOnly [.handed] s (s.hand src x) := by
  rw [hand_eq]; exact s.changesOnly_handed _

theorem taking_changesOnly (x : Handed) : ChangesOnly [.handed] s (s.taking x) := s.changesOnly_handed _

theorem setLink_changesOnly (l : Lane) (k : LinkLane) : ChangesOnly [.links] s (s.setLink l k) := by
  intro p out; cases p <;> first | exact (out (by decide)).elim | rfl

theorem setPlan_changesOnly (l : Lane) (x : PlanLane) : ChangesOnly [.plans] s (s.setPlan l x) := by
  intro p out; cases p <;> first | exact (out (by decide)).elim | rfl

theorem setTracker_changesOnly (t : Tracker) : ChangesOnly [.tracker] s (s.setTracker t) := by
  intro p out; cases p <;> first | exact (out (by decide)).elim | rfl

theorem emptyHolder_changesOnly (l : Lane) : ChangesOnly [.links] s (s.emptyHolder l) := s.setLink_changesOnly l _

theorem faultLink_changesOnly (l : Lane) : ChangesOnly [.links, .handed] s (s.faultLink l) := by
  obtain ⟨k, h, e⟩ := faultLink_frame s l
  rw [e]; exact s.changesOnly_links k h

theorem sendOut_changesOnly (src : Block) (l : Lane) (m : OutMsg) :
    ChangesOnly [.links, .handed] s (s.sendOut src l m) := by
  obtain ⟨k, h, e⟩ := sendOut_frame s src l m
  rw [e]; exact s.changesOnly_links k h

theorem notifyCadence_changesOnly : ChangesOnly [.handed] s s.notifyCadence := by
  obtain ⟨h, e⟩ := notifyCadence_frame s
  rw [e]; exact s.changesOnly_handed h

theorem completeClaim_changesOnly (m : Marks) : ChangesOnly [.changed, .handed] s (s.completeClaim m) := by
  obtain ⟨c, h, e⟩ := completeClaim_frame s m
  rw [e]; intro p out; cases p <;> first | exact (out (by decide)).elim | rfl

theorem finishClaim_changesOnly (g : Bool) (m : Marks) :
    ChangesOnly [.tracker, .table, .changed, .handed] s (s.finishClaim g m) := by
  obtain ⟨t, b, c, h, e⟩ := finishClaim_frame s g m
  rw [e]; exact s.changesOnly_claim t b c h

theorem moveGuard_changesOnly (l : Lane) (g : Nat) : ChangesOnly [.grants, .handed] s (s.moveGuard l g) := by
  obtain ⟨x, h, e⟩ := moveGuard_frame s l g
  rw [e]; exact s.changesOnly_grants x h

theorem noticeDrain_changesOnly (l : Lane) : ChangesOnly [.handed] s (s.noticeDrain l) := by
  obtain ⟨h, e⟩ := noticeDrain_frame s l
  rw [e]; exact s.changesOnly_handed h

theorem closeLane_changesOnly (l : Lane) : ChangesOnly [.grants, .handed] s (s.closeLane l) := by
  obtain ⟨x, h, e⟩ := closeLane_frame s l
  rw [e]; exact s.changesOnly_grants x h

theorem resetGuard_changesOnly (l : Lane) : ChangesOnly [.grants, .handed] s (s.resetGuard l) := by
  obtain ⟨x, h, e⟩ := resetGuard_frame s l
  rw [e]; exact s.changesOnly_grants x h

theorem sendOrder_changesOnly (l : Lane) (w : SwitchRecord) (p : PlanState) (n : Nat) :
    ChangesOnly [.plans, .links, .handed] s (s.sendOrder l w p n) := by
  obtain ⟨x, k, h, e⟩ := sendOrder_frame s l w p n
  rw [e]; exact s.changesOnly_plans x k h

theorem firstOrder_changesOnly (l : Lane) : ChangesOnly [.plans, .links, .handed] s (s.firstOrder l) := by
  obtain ⟨x, k, h, e⟩ := firstOrder_frame s l
  rw [e]; exact s.changesOnly_plans x k h

theorem beginSwitch_changesOnly (l : Lane) (w : SwitchRecord) :
    ChangesOnly [.plans, .links, .handed] s (s.beginSwitch l w) := by
  obtain ⟨x, k, h, e⟩ := beginSwitch_frame s l w
  rw [e]; exact s.changesOnly_plans x k h

theorem judgeEligible_changesOnly (l : Lane) : ChangesOnly [.plans, .links, .handed] s (s.judgeEligible l) := by
  obtain ⟨x, k, h, e⟩ := judgeEligible_frame s l
  rw [e]; exact s.changesOnly_plans x k h

theorem judgeAll_changesOnly : ChangesOnly [.plans, .links, .handed] s s.judgeAll := by
  obtain ⟨x, k, h, e⟩ := judgeAll_frame s
  rw [e]; exact s.changesOnly_plans x k h

theorem takeOutcome_changesOnly (l : Lane) : ChangesOnly [.grants, .links, .handed] s (s.takeOutcome l) := by
  obtain ⟨g, k, h, e⟩ := takeOutcome_frame s l
  rw [e]; intro p out; cases p <;> first | exact (out (by decide)).elim | rfl

/-! ## The Cadence Tracker and the table -/

theorem changesOnly_table (b : Vector (Option Interferer) 32) : ChangesOnly [.table] s { s with table := b } := by
  intro p out; cases p <;> first | exact (out (by decide)).elim | rfl

theorem removePhases_changesOnly : ChangesOnly [.table] s s.removePhases := s.changesOnly_table _

theorem setSlot_changesOnly (k : Slot) (r : Option Interferer) : ChangesOnly [.table] s (s.setSlot k r) :=
  s.changesOnly_table _

theorem loseLock_changesOnly (rise : AirTime) :
    ChangesOnly [.tracker, .table, .changed, .handed] s (s.loseLock rise) := by
  unfold loseLock
  have moved := (s.removePhases_changesOnly.mono (w := [.tracker, .table, .changed, .handed]) (by simp)).trans
    ((s.removePhases.setTracker_changesOnly { s.tracker with
      state := .acquiring, candidate := some s.tracker.period, consistent := 1, outliers := 0, reference := some rise
      anchorMisses := 0, holdover := none }).mono (by simp))
  exact moved.trans ((notifyCadence_changesOnly _).mono (by simp))
    |>.trans ((completeClaim_changesOnly _ _).mono (by simp))

theorem testLock_changesOnly (c : Nat) (rise : AirTime) : ChangesOnly [.tracker, .handed] s (s.testLock c rise) := by
  unfold testLock
  split
  · exact ((setTracker_changesOnly _ _).mono (by simp)).trans ((notifyCadence_changesOnly _).mono (by simp))
  · exact .refl _ s

theorem riseWithoutCandidate_changesOnly (r rise : AirTime) :
    ChangesOnly [.tracker, .handed] s (s.riseWithoutCandidate r rise) := by
  have moved (t : Tracker) : ChangesOnly [.tracker, .handed] s (s.setTracker t) := (s.setTracker_changesOnly t).mono (by simp)
  exact .ite (.refl _ s) (.ite (moved _) (moved _))

theorem riseAcquiring_changesOnly (r rise : AirTime) : ChangesOnly [.tracker, .handed] s (s.riseAcquiring r rise) := by
  have moved (t : Tracker) : ChangesOnly [.tracker, .handed] s (s.setTracker t) := (s.setTracker_changesOnly t).mono (by simp)
  unfold riseAcquiring
  split
  · exact s.riseWithoutCandidate_changesOnly r rise
  · refine .ite ?_ ((moved _).trans (riseWithoutCandidate_changesOnly _ r rise))
    exact .ite (.refl _ s) (.ite ((moved _).trans (testLock_changesOnly _ _ rise)) (.ite (moved _) (moved _)))

theorem takeRise_changesOnly (k : Slot) (rise : AirTime) :
    ChangesOnly [.tracker, .table, .changed, .handed] s (s.takeRise k rise) := by
  have moved (t : Tracker) : ChangesOnly [.tracker, .table, .changed, .handed] s (s.setTracker t) :=
    (s.setTracker_changesOnly t).mono (by simp)
  have told (t : Tracker) : ChangesOnly [.tracker, .table, .changed, .handed] s (s.setTracker t).notifyCadence :=
    (moved t).trans ((notifyCadence_changesOnly _).mono (by simp))
  unfold takeRise
  split
  · exact .ite (told _) (.refl _ s)
  · split
    · exact .ite ((s.riseAcquiring_changesOnly _ rise).mono (by simp)) (.refl _ s)
    · exact .refl _ s
  · split
    · exact .ite (.ite (moved _) (.ite (moved _) (s.loseLock_changesOnly rise))) (.refl _ s)
    · exact .refl _ s
  · split
    · exact .ite (.ite (told _) (.refl _ s)) (.refl _ s)
    · exact .refl _ s

theorem takeMiss_changesOnly (k : Slot) : ChangesOnly [.tracker, .handed] s (s.takeMiss k) := by
  have moved (t : Tracker) : ChangesOnly [.tracker, .handed] s (s.setTracker t) := (s.setTracker_changesOnly t).mono (by simp)
  unfold takeMiss
  split
  · exact .refl _ s
  · exact .refl _ s
  · exact .refl _ s
  · exact .ite (.ite (moved _) ((moved _).trans ((notifyCadence_changesOnly _).mono (by simp)))) (.refl _ s)

theorem requestFull_changesOnly (n : Nat) : ChangesOnly [.handed] s (s.requestFull n) := by
  induction n generalizing s with
  | zero => exact .refl _ s
  | succ n ih => exact (s.hand_changesOnly _ _).trans (ih _)

theorem surveyClaim_changesOnly (i : Intake) :
    ChangesOnly [.tracker, .table, .changed, .handed] s (s.surveyClaim i) := by
  exact ((s.changesOnly_table i.table).mono (by simp)).trans ((requestFull_changesOnly _ _).mono (by simp))
    |>.trans (finishClaim_changesOnly _ _ _)

theorem acceptSurvey_changesOnly (v : Survey) :
    ChangesOnly [.coverage, .tracker, .table, .changed, .handed] s (s.acceptSurvey v) := by
  have read : ChangesOnly [.coverage] s { s with coverage := coverageAfter v s.coverage } := by
    intro p out; cases p <;> first | exact (out (by decide)).elim | rfl
  have report (t : State) (h : Option Handed) : ChangesOnly [.handed] t (t.handReport h) := by
    cases h
    · exact .refl _ t
    · exact t.hand_changesOnly _ _
  exact (read.mono (by simp)).trans (.ite (.refl _ _)
    (((surveyClaim_changesOnly _ _).mono (by simp)).trans ((report _ _).mono (by simp))))

theorem takeSurvey_changesOnly (l : Lane) :
    ChangesOnly [.links, .coverage, .tracker, .table, .changed, .handed] s (s.takeSurvey l) := by
  have emptied : ChangesOnly [.links, .coverage, .tracker, .table, .changed, .handed] s (s.emptyHolder l) :=
    (s.emptyHolder_changesOnly l).mono (by simp)
  unfold takeSurvey
  dsimp only
  split
  · exact emptied
  · split
    · exact emptied.trans ((acceptSurvey_changesOnly _ _).mono (by simp))
    · exact emptied.trans ((sendOut_changesOnly _ _ _ _).mono (by simp))

/-! ## The links -/

theorem linkNak_changesOnly (l : Lane) (r : NakReason) (kind : Byte) :
    ChangesOnly [.links, .handed] s (s.linkNak l r kind) := s.sendOut_changesOnly _ l _

theorem helloAtLink_changesOnly (l : Lane) : ChangesOnly [.links, .handed] s (s.helloAtLink l) :=
  ((setLink_changesOnly s l _).trans (setLink_changesOnly _ l _)).mono (by simp)

theorem sortMessage_changesOnly (l : Lane) (hold holdoff : Bool) (kind : Byte) (body : List Byte) :
    ChangesOnly [.links, .handed] s (s.sortMessage l hold holdoff kind body) := by
  have entered (k : InKind) : ChangesOnly [.links, .handed] s (s.enterHolder l k body) :=
    (s.setLink_changesOnly l _).mono (by simp)
  refine .ite (s.linkNak_changesOnly l _ _) ?_
  split
  · exact .ite (.ite (s.helloAtLink_changesOnly l) (.ite (s.linkNak_changesOnly l _ _)
      (.ite (s.linkNak_changesOnly l _ _) (entered _)))) (s.linkNak_changesOnly l _ _)
  · exact s.linkNak_changesOnly l _ _

theorem arrive_changesOnly (l : Lane) (hold holdoff : Bool) (bytes : List Byte) :
    ChangesOnly [.links, .handed] s (s.arrive l hold holdoff bytes) := by
  have moved (t : State) (k : LinkLane) : ChangesOnly [.links, .handed] t (t.setLink l k) :=
    (t.setLink_changesOnly l k).mono (by simp)
  have cleared : ChangesOnly [.links, .handed] s (s.clearFailures l) := .ite (.refl _ s) (moved s _)
  have counted : ChangesOnly [.links, .handed] s (s.countFailure l) :=
    .ite (.refl _ s) (.ite (moved s _) ((moved s _).trans (faultLink_changesOnly _ l)))
  exact .ite (cleared.trans (sortMessage_changesOnly _ l hold holdoff _ _)) (counted.trans (linkNak_changesOnly _ l _ _))

theorem endReception_changesOnly (l : Lane) (bytes : List Byte) :
    ChangesOnly [.links, .handed] s (s.endReception l bytes) := by
  unfold endReception
  split
  · exact s.arrive_changesOnly l _ _ bytes
  · exact ((s.setLink_changesOnly l _).mono (by simp)).trans (arrive_changesOnly _ l _ _ bytes)
  · exact .refl _ s

theorem beginReception_changesOnly (l : Lane) : ChangesOnly [.links, .handed] s (s.beginReception l) := by
  unfold beginReception
  split
  · exact (s.setLink_changesOnly l _).mono (by simp)
  · exact .refl _ s
  · exact .refl _ s

theorem helloArrives_changesOnly (l : Lane) : ChangesOnly [.links, .handed] s (s.helloArrives l) := by
  unfold helloArrives
  split
  · exact s.helloAtLink_changesOnly l
  · exact ((s.setLink_changesOnly l _).mono (by simp)).trans (helloAtLink_changesOnly _ l)
  · exact .refl _ s

theorem sendHead_changesOnly (l : Lane) : ChangesOnly [.links] s (s.sendHead l) := by
  unfold sendHead
  split
  · exact .refl _ s
  · exact s.setLink_changesOnly l _

theorem restartReception_changesOnly (l : Lane) : ChangesOnly [.links] s (s.restartReception l) := by
  unfold restartReception
  split
  · exact .refl _ s
  · exact .refl _ s
  · exact s.setLink_changesOnly l _

/-! ## The Plan Stacks -/

theorem failSwitch_changesOnly (l : Lane) (w : SwitchRecord) :
    ChangesOnly [.plans, .links, .handed] s (s.failSwitch l w) := by
  have asked (x : PlanLane) (f : Flag) : ChangesOnly [.plans, .links, .handed] s ((s.setPlan l x).request .pls f) :=
    ((s.setPlan_changesOnly l x).mono (by simp)).trans ((hand_changesOnly _ _ _).mono (by simp))
  exact .ite ((asked _ _).trans ((hand_changesOnly _ _ _).mono (by simp))) ((asked _ _).trans (judgeEligible_changesOnly _ l))

theorem completeSwitch_changesOnly (l : Lane) (w : SwitchRecord) :
    ChangesOnly [.plans, .links, .handed] s (s.completeSwitch l w) := by
  have moved (x : PlanLane) : ChangesOnly [.plans, .links, .handed] s (s.setPlan l x) :=
    (s.setPlan_changesOnly l x).mono (by simp)
  exact .ite ((moved _).trans ((hand_changesOnly _ _ _).mono (by simp))) (moved _)

theorem takeHeldAnswer_changesOnly (l : Lane) (kind : InKind) (finish : State → SwitchRecord → State)
    (finished : ∀ t w, ChangesOnly [.plans, .links, .handed] t (finish t w)) :
    ChangesOnly [.plans, .links, .handed] s (s.takeHeldAnswer l kind finish) := by
  have emptied : ChangesOnly [.plans, .links, .handed] s (s.emptyHolder l) :=
    (s.emptyHolder_changesOnly l).mono (by simp)
  have sent (m : OutMsg) : ChangesOnly [.plans, .links, .handed] s ((s.emptyHolder l).sendOut .pls l m) :=
    emptied.trans ((sendOut_changesOnly _ _ _ _).mono (by simp))
  refine .ite ?_ (.refl _ s)
  dsimp only
  split
  · exact emptied
  · split
    · unfold takeAnswer
      split
      · exact .ite (emptied.trans (finished _ _)) (sent _)
      · exact sent _
    · exact sent _

theorem takeDrain_changesOnly (l : Lane) : ChangesOnly [.plans, .links, .handed] s (s.takeDrain l) :=
  .ite (s.firstOrder_changesOnly l) (.refl _ s)

theorem restoreTop_changesOnly (l : Lane) : ChangesOnly [.plans, .links, .handed] s (s.restoreTop l) := by
  unfold restoreTop
  dsimp only
  split
  · exact .refl _ s
  · exact ((s.setPlan_changesOnly l _).mono (by simp)).trans (firstOrder_changesOnly _ l)

theorem restartLane_changesOnly (l : Lane) :
    ChangesOnly [.grants, .plans, .links, .handed] s (s.restartLane l) := by
  have closed : ChangesOnly [.grants, .plans, .links, .handed] s ((s.closeLane l).resetGuard l) :=
    ((s.closeLane_changesOnly l).trans (resetGuard_changesOnly _ l)).mono (by simp)
  have sent (t : State) : ChangesOnly [.grants, .plans, .links, .handed] t (t.sendWelcome l) :=
    (t.sendOut_changesOnly _ l _).mono (by simp)
  exact .ite (closed.trans (sent _)) (closed.trans ((setPlan_changesOnly _ l _).mono (by simp))
    |>.trans (sent _) |>.trans ((restoreTop_changesOnly _ l).mono (by simp)))

/-! ## The Station Table and the Grant Engine -/

theorem setStation_changesOnly (k : StationSlot) (r : Option Station) :
    ChangesOnly [.stations, .advised] s (s.setStation k r) := s.changesOnly_stations _ s.advised

theorem unadvise_changesOnly (k : StationSlot) : ChangesOnly [.stations, .advised] s (s.unadvise k) :=
  .ite (.refl _ s) (s.changesOnly_stations s.stations _)

theorem advise_changesOnly (k : StationSlot) : ChangesOnly [.stations, .advised] s (s.advise k) :=
  .ite (.refl _ s) (s.changesOnly_stations s.stations _)

theorem counterClaim_changesOnly (a : Address) (r : ClaimResult) :
    ChangesOnly [.stations, .advised, .handed] s (s.counterClaim a r) := by
  have moved (k : StationSlot) (x : Option Station) : ChangesOnly [.stations, .advised, .handed] s (s.setStation k x) :=
    (s.setStation_changesOnly k x).mono (by simp)
  unfold counterClaim
  split
  · exact .refl _ s
  · split
    · exact .refl _ s
    · split
      · exact .ite (moved _ _) ((moved _ _).trans ((unadvise_changesOnly _ _).mono (by simp)))
      · exact .ite (moved _ _) ((moved _ _).trans ((hand_changesOnly _ _ _).mono (by simp)))

theorem applySteering_changesOnly (x : SteeringResult) : ChangesOnly [.stations, .advised] s (s.applySteering x) := by
  unfold applySteering
  split
  · exact .refl _ s
  · refine .ite ?_ (.refl _ s)
    split
    · exact (s.setStation_changesOnly _ _).trans (advise_changesOnly _ _)
    · exact .refl _ s

theorem evaluate_changesOnly (l : Lane) (q : Query) : ChangesOnly [.grants, .links, .handed] s (s.evaluate l q) := by
  have sent (t : State) (m : OutMsg) : ChangesOnly [.grants, .links, .handed] t (t.answerQuery l m) :=
    (t.sendOut_changesOnly _ l m).mono (by simp)
  have set (g : GrantLane) : ChangesOnly [.grants, .links, .handed] s (s.setGrant l g) :=
    (s.changesOnly_grants _ s.handed).mono (by simp)
  unfold evaluate
  split
  case h_6 =>
    refine .ite (sent s _) ?_
    split
    · unfold grantQuery
      simp only
      split
      · exact (set _).trans (sent _ _)
      · exact sent s _
    · exact .refl _ s
  all_goals exact sent s _

theorem takeQuery_changesOnly (l : Lane) : ChangesOnly [.arbiter, .grants, .links, .handed] s (s.takeQuery l) := by
  have emptied : ChangesOnly [.arbiter, .grants, .links, .handed] s (s.emptyHolder l) :=
    (s.emptyHolder_changesOnly l).mono (by simp)
  have turned (t : State) : ChangesOnly [.arbiter, .grants, .links, .handed] t { t with arbiter := l } := by
    intro p out; cases p <;> first | exact (out (by decide)).elim | rfl
  unfold takeQuery
  dsimp only
  split
  · exact emptied
  · split
    · exact (emptied.trans (turned _)).trans ((evaluate_changesOnly _ l _).mono (by simp))
    · exact (emptied.trans (turned _)).trans ((sendOut_changesOnly _ _ l _).mono (by simp))

theorem expireGrant_changesOnly (l : Lane) (id : Byte) : ChangesOnly [.grants, .handed] s (s.expireGrant l id) := by
  unfold expireGrant
  split
  · exact .refl _ s
  · exact .ite ((s.changesOnly_grants _ s.handed).trans ((noticeDrain_changesOnly _ l).mono (by simp))) (.refl _ s)

theorem expireHoldover_changesOnly : ChangesOnly [.tracker, .table, .changed, .handed] s s.expireHoldover := by
  refine .ite ?_ (.refl _ s)
  obtain ⟨h, e⟩ := enterFree_frame s
  dsimp only
  rw [e]
  exact (s.changesOnly_claim _ _ s.changed h).trans ((completeClaim_changesOnly _ _).mono (by simp))

theorem expireSwitch_changesOnly (l : Lane) : ChangesOnly [.plans, .links, .handed] s (s.expireSwitch l) := by
  refine .ite ?_ (.refl _ s)
  split
  · exact .refl _ s
  · exact .ite (s.sendOrder_changesOnly l _ _ _) (((s.setPlan_changesOnly l _).mono (by simp)).trans
      ((hand_changesOnly _ _ _).mono (by simp)) |>.trans ((hand_changesOnly _ _ _).mono (by simp)))

theorem expireSettle_changesOnly (l : Lane) : ChangesOnly [.plans, .links, .handed] s (s.expireSettle l) :=
  .ite (((s.setPlan_changesOnly l _).mono (by simp)).trans (judgeEligible_changesOnly _ l)) (.refl _ s)

/-! ## Time and resets -/

/-- What TICK may change: the time, and what a prompt event may change. -/
def tickParts : List Part :=
  [.airTime, .tick, .choices, .tracker, .table, .changed, .plans, .grants, .links, .handed]

theorem takePrompt_changesOnly (p : Prompt) : ChangesOnly tickParts s (s.takePrompt p) := by
  obtain ⟨t, b, c, x, g, k, h, e⟩ := takePrompt_frame s p
  rw [e]; intro p out; cases p <;> first | exact (out (by decide)).elim | rfl

theorem pass_changesOnly (n : Nat) : ChangesOnly [.airTime, .tick] s (s.pass n) := by
  intro p out; cases p <;> first | exact (out (by decide)).elim | rfl

theorem chose_changesOnly (n : Nat) : ChangesOnly [.choices] s (s.chose n) :=
  .ite (.refl _ s) (by intro p out; cases p <;> first | exact (out (by decide)).elim | rfl)

/-- What is kept by a prompt event, by a choice and by the passing of time is kept by TICK. -/
theorem toNextTick_induction {P : State → Prop} (time : ∀ s t, ChangesOnly [.airTime, .tick, .choices] s t → P s → P t)
    (prompt : ∀ s p, P s → P (takePrompt s p)) (n : Nat) (h : P s) : P (s.toNextTick n) := by
  have passed (t : State) (m : Nat) (ht : P t) : P (t.pass m) := time t _ ((t.pass_changesOnly m).mono (by simp)) ht
  induction n generalizing s with
  | zero => exact passed s _ h
  | succ n ih =>
    unfold toNextTick
    split
    · split
      · exact passed s _ h
      · exact ih _ (passed s _ h)
    · exact ih _ (prompt _ _ (time s _ ((s.chose_changesOnly _).mono (by simp)) h))

theorem toNextTick_changesOnly (n : Nat) : ChangesOnly tickParts s (s.toNextTick n) :=
  toNextTick_induction s (P := ChangesOnly tickParts s) (fun _ _ h k => k.trans (h.mono (by simp [tickParts])))
    (fun t p k => k.trans (t.takePrompt_changesOnly p)) n (.refl _ s)

end State

/-- What a block's own reset may change. -/
def resetParts (b : Block) : List Part :=
  match b with
  | .ctk => [.tracker, .table]
  | .ift => [.tracker, .table]
  | .svi => [.coverage]
  | .stb => [.stations]
  | .pls => [.plans]
  | .gre => [.arbiter, .grants]
  | .lli => [.links]
  | .cpa => []

theorem State.blockValues_changesOnly (s : State) (b : Block) : ChangesOnly (resetParts b) s (s.blockValues b) := by
  cases b with
  | ctk =>
    exact (s.removePhases_changesOnly.mono (w := [.tracker, .table]) (by simp)).trans
      ((setTracker_changesOnly _ _).mono (by simp))
  | ift => intro p out; cases p <;> first | exact (out (by decide)).elim | rfl
  | _ => intro p out; cases p <;> first | exact (out (by decide)).elim | rfl

theorem State.takeReset_changesOnly (s : State) (b : Block) :
    ChangesOnly ([.handed, .resets, .ready, .response] ++ resetParts b) s (s.takeReset b) := by
  have dropped : ChangesOnly [.handed] s (s.dropWork b) := s.changesOnly_handed _
  have marked (t : State) (r : List Block) : ChangesOnly [.resets] t { t with resets := r } := by
    intro p out; cases p <;> first | exact (out (by decide)).elim | rfl
  have finished (t : State) : ChangesOnly [.ready, .response] t t.finishSoftReset :=
    .ite (by intro p out; cases p <;> first | exact (out (by decide)).elim | rfl) (.refl _ t)
  exact .ite ((dropped.mono (by simp)).trans ((blockValues_changesOnly _ b).mono (List.subset_append_right _ _))
    |>.trans ((marked _ _).mono (by simp)) |>.trans ((finished _).mono (by simp))) (.refl _ s)

/-! ## Transactions and events -/

/-- The parts of the control port that a transaction may change. -/
def portParts : List Part := [.ready, .response, .answer, .sdo]

theorem State.completed_changesOnly (s : State) (x : Response) : ChangesOnly portParts s (s.completed x) := by
  intro p out; cases p <;> first | exact (out (by decide)).elim | rfl

theorem State.carryNotReady_changesOnly (s : State) (n : Nat) : ChangesOnly portParts s (s.carryNotReady n) := by
  intro p out; cases p <;> first | exact (out (by decide)).elim | rfl

theorem State.answering_changesOnly (s : State) (c : Instr) (x : Response) : ChangesOnly portParts s (s.answering c x) := by
  intro p out; cases p <;> first | exact (out (by decide)).elim | rfl

/-- A transaction finds the part as it is, or with the command in execution completed. -/
theorem State.port?_changesOnly {s t : State} (h : s.port? = some t) : ChangesOnly portParts s t := by
  unfold State.port? at h
  split at h
  · cases h; exact .refl _ s
  · obtain ⟨x, -, rfl⟩ := Option.map_eq_some_iff.mp h
    exact s.completed_changesOnly x

/-- A transaction is turned away, or its owner executes the command on the part as the transaction finds it. -/
theorem transact_cases {c : Instr} {s t : State} {owner : State → State × Response} (h : transact c s owner = .next t) :
    (∃ n, t = s.carryNotReady n) ∨
      ∃ u, ChangesOnly portParts s u ∧ t = (owner u).1.answering c (owner u).2 := by
  unfold transact at h
  split at h
  · cases h
    exact .inr ⟨_, State.port?_changesOnly ‹_›, rfl⟩
  · cases h
    exact .inl ⟨_, rfl⟩

/-- An event changes nothing while RESET_N is low, and has its effect otherwise. -/
theorem event_cases {s t : State} {f : State → State} (h : event s f = .next t) :
    (s.resetN = false ∧ t = s) ∨ (s.resetN = true ∧ t = f s) := by
  cases n : s.resetN with
  | false => rw [event_of_reset s f n] at h; cases h; exact .inl ⟨rfl, rfl⟩
  | true => rw [event_of_running s f n] at h; cases h; exact .inr ⟨rfl, rfl⟩

theorem event_changesOnly {w : List Part} {s t : State} {f : State → State} (h : event s f = .next t)
    (effect : ChangesOnly w s (f s)) : ChangesOnly w s t := by
  obtain ⟨-, rfl⟩ | ⟨-, rfl⟩ := event_cases h
  · exact .refl w t
  · exact effect

theorem transact_changesOnly {w : List Part} {c : Instr} {s t : State} {owner : State → State × Response}
    (h : transact c s owner = .next t) (effect : ∀ u, ChangesOnly w u (owner u).1) : ChangesOnly (portParts ++ w) s t := by
  obtain ⟨n, rfl⟩ | ⟨u, found, rfl⟩ := transact_cases h
  · exact (s.carryNotReady_changesOnly n).mono (by simp)
  · exact (found.mono (by simp)).trans ((effect u).mono (by simp))
      |>.trans ((State.answering_changesOnly _ _ _).mono (by simp))

theorem withLane_changesOnly {w : List Part} {lane : Byte} {s : State} {f : Lane → State × Response}
    (h : ∀ l, ChangesOnly w s (f l).1) : ChangesOnly w s (withLane lane s f).1 := by
  unfold withLane
  split
  · exact h _
  · exact .refl w s

theorem withRecord_changesOnly {w : List Part} {slot : Byte} {s : State} {f : Slot → Interferer → State × Response}
    (h : ∀ k r, ChangesOnly w s (f k r).1) : ChangesOnly w s (withRecord slot s f).1 := by
  unfold withRecord
  split
  · exact .refl w s
  · split
    · exact .refl w s
    · exact h _ _

theorem withStation_changesOnly {w : List Part} {slot : Byte} {s : State} {f : StationSlot → Station → State × Response}
    (h : ∀ k r, ChangesOnly w s (f k r).1) : ChangesOnly w s (withStation slot s f).1 := by
  unfold withStation
  split
  · exact .refl w s
  · exact .refl w s
  · split
    · exact .refl w s
    · exact h _ _

/-- A choice between two answers of an owner. -/
theorem ChangesOnly.iteFst {w : List Part} {s : State} {c : Prop} [Decidable c] {x y : State × Response}
    (yes : ChangesOnly w s x.1) (no : ChangesOnly w s y.1) : ChangesOnly w s (if c then x else y).1 := by
  split
  · exact yes
  · exact no

/-! ## The owners of the host commands -/

theorem claimChange_changesOnly (s : State) (k : Slot) (old new : Interferer) :
    ChangesOnly [.table, .changed, .handed] s (s.claimChange k old new) := by
  exact ((s.setSlot_changesOnly k _).mono (by simp)).trans ((State.completeClaim_changesOnly _ _).mono (by simp))

theorem placeOwner_changesOnly (a : PlaceArgs) (s : State) :
    ChangesOnly [.table, .changed, .handed] s (placeOwner a s).1 := by
  unfold placeOwner
  split
  · exact .refl _ s
  · split
    · exact .refl _ s
    · exact ((s.setSlot_changesOnly _ _).mono (by simp)).trans ((State.completeClaim_changesOnly _ _).mono (by simp))

theorem interfererAmendOwner_changesOnly (a : InterfererAmendArgs) (s : State) :
    ChangesOnly [.table, .changed, .handed] s (interfererAmendOwner a s).1 := by
  refine withRecord_changesOnly fun k r => .iteFst ?_ (.refl _ s)
  split
  · exact .refl _ s
  · exact claimChange_changesOnly s k r _

theorem pinOwner_changesOnly (slot : Byte) (s : State) : ChangesOnly [.table, .changed, .handed] s (pinOwner slot s).1 :=
  withRecord_changesOnly fun k r => .iteFst (.refl _ s) (claimChange_changesOnly s k r _)

theorem unpinOwner_changesOnly (slot : Byte) (s : State) :
    ChangesOnly [.table, .changed, .handed] s (unpinOwner slot s).1 :=
  withRecord_changesOnly fun k r => .iteFst (claimChange_changesOnly s k r _) (.refl _ s)

theorem retireOwner_changesOnly (slot : Byte) (s : State) :
    ChangesOnly [.tracker, .table, .changed, .handed] s (retireOwner slot s).1 := by
  exact withRecord_changesOnly fun k _ => ((s.setSlot_changesOnly k none).mono (by simp)).trans (State.finishClaim_changesOnly _ _ _)

theorem admitOwner_changesOnly (a : AdmitArgs) (s : State) : ChangesOnly [.stations] s (admitOwner a s).1 := by
  have moved (k : StationSlot) (r : Option Station) : ChangesOnly [.stations] s (s.setStation k r) := by
    intro p out; cases p <;> first | exact (out (by decide)).elim | rfl
  unfold admitOwner
  split
  · exact .refl _ s
  · refine .iteFst (.refl _ s) ?_
    split
    · exact .refl _ s
    · exact moved _ _

theorem stationAmendOwner_changesOnly (a : StationAmendArgs) (s : State) :
    ChangesOnly [.stations, .advised] s (stationAmendOwner a s).1 := by
  refine withStation_changesOnly fun k r => ?_
  split
  · exact .refl _ s
  · exact .iteFst (.refl _ s)
      (.ite (s.setStation_changesOnly k _) ((s.setStation_changesOnly k _).trans (State.unadvise_changesOnly _ k)))

theorem releaseOwner_changesOnly (slot : Byte) (s : State) :
    ChangesOnly [.stations, .advised] s (releaseOwner slot s).1 :=
  withStation_changesOnly fun k _ => (s.setStation_changesOnly k _).trans (State.unadvise_changesOnly _ k)

theorem pushOwner_changesOnly (lane : Byte) (plan : RawPlan) (tolerance : Byte) (s : State) :
    ChangesOnly [.plans, .links, .handed] s (pushOwner lane plan tolerance s).1 := by
  have moved (l : Lane) (x : PlanLane) : ChangesOnly [.plans, .links, .handed] s (s.setPlan l x) :=
    (s.setPlan_changesOnly l x).mono (by simp)
  have asked (l : Lane) (x : PlanLane) (c : Prop) [Decidable c] (f : Flag) : ChangesOnly [.plans, .links, .handed] s
      (if c then (s.setPlan l x).request .pls f else s.setPlan l x) :=
    .ite ((moved l x).trans ((State.hand_changesOnly _ _ _).mono (by simp))) (moved l x)
  refine withLane_changesOnly fun l => ?_
  split
  · refine .iteFst ?_ (.refl _ s)
    exact .iteFst (.refl _ s) (.iteFst (.refl _ s) (.iteFst (.refl _ s)
      (.ite (asked l _ _ _) ((asked l _ _ _).trans (State.beginSwitch_changesOnly _ l _)))))
  · exact .refl _ s

theorem popOwner_changesOnly (lane : Byte) (s : State) : ChangesOnly [.plans, .links, .handed] s (popOwner lane s).1 := by
  refine withLane_changesOnly fun l => .iteFst (.refl _ s) (.iteFst (.iteFst (.refl _ s) ?_) (.iteFst (.refl _ s) ?_))
  · exact (s.setPlan_changesOnly l _).mono (by simp)
  · split
    · exact s.beginSwitch_changesOnly l _
    · exact .refl _ s

theorem continueOwner_changesOnly (lane : Byte) (s : State) : ChangesOnly [.plans] s (continueOwner lane s).1 :=
  withLane_changesOnly fun l => .iteFst (s.setPlan_changesOnly l _) (.refl _ s)

theorem enableOwner_changesOnly (lane : Byte) (s : State) :
    ChangesOnly [.plans, .links, .handed] s (enableOwner lane s).1 :=
  withLane_changesOnly fun l => .iteFst (.refl _ s) (.iteFst (.refl _ s)
    (((s.sendOut_changesOnly _ l _).mono (by simp)).trans (State.restoreTop_changesOnly _ l)))

theorem disableOwner_changesOnly (lane : Byte) (s : State) :
    ChangesOnly [.plans, .grants, .handed] s (disableOwner lane s).1 :=
  withLane_changesOnly fun l => .iteFst (.refl _ s)
    (((s.closeLane_changesOnly l).mono (by simp)).trans ((State.setPlan_changesOnly _ l _).mono (by simp)))

theorem laneResetOwner_changesOnly (lane : Byte) (s : State) :
    ChangesOnly [.grants, .plans, .links, .handed] s (laneResetOwner lane s).1 :=
  withLane_changesOnly fun l =>
    ((s.setLink_changesOnly l _).mono (by simp)).trans (State.restartLane_changesOnly _ l)

theorem setParameterOwner_changesOnly (n q : Byte) (v : BitVec 32) (s : State) :
    ChangesOnly [.params, .grants, .handed] s (setParameterOwner n q v s).1 := by
  have clamped (t : State) (l : Lane) : ChangesOnly [.params, .grants, .handed] t (t.clampGuard l) :=
    (t.moveGuard_changesOnly l _).mono (by simp)
  have stored (p : Params) : ChangesOnly [.params, .grants, .handed] s { s with params := p } := by
    intro p out; cases p <;> first | exact (out (by decide)).elim | rfl
  unfold setParameterOwner
  split
  · exact .refl _ s
  · split
    · exact .refl _ s
    · exact .ite ((stored _).trans (clamped _ .l0) |>.trans (clamped _ .l1) |>.trans (clamped _ .l2)) (stored _)

theorem setModeOwner_changesOnly (m : Byte) (s : State) : ChangesOnly [.mode, .handed] s (setModeOwner m s).1 := by
  have set (m : Mode) : ChangesOnly [.mode, .handed] s { s with mode := m } := by
    intro p out; cases p <;> first | exact (out (by decide)).elim | rfl
  unfold setModeOwner
  split
  · exact .refl _ s
  · exact .ite ((set _).trans ((State.hand_changesOnly _ _ _).mono (by simp))) (set _)

/-! ## The footprint of every command -/

/-- The parts that a command may change. -/
def footprint (c : Instr) : List Part :=
  match c with
  | .powerOnReset => [.resetN, .airTime, .tick, .ready, .response, .answer, .sdo, .params, .mode, .startCause, .flags,
      .changed, .advised, .resets, .tracker, .table, .coverage, .stations, .plans, .arbiter, .grants, .links, .handed]
  | .resetRelease => [.resetN, .ready]
  | .tick => State.tickParts
  | .softReset => portParts ++ [.mode, .startCause, .flags, .changed, .advised, .resets, .handed]
  | .softResetBlock b => [.handed, .resets, .ready, .response] ++ resetParts b
  | .laneMessageArrival _ _ => [.links, .handed]
  | .helloArrival _ => [.links, .handed]
  | .hello _ => [.grants, .plans, .links, .handed]
  | .outboundSend _ => [.links]
  | .query => [.arbiter, .grants, .links, .handed]
  | .outcome _ => [.grants, .links, .handed]
  | .grantExpiry _ _ => [.grants, .handed]
  | .counterClaim _ _ => [.stations, .advised, .handed]
  | .survey => [.links, .coverage, .tracker, .table, .changed, .handed]
  | .riseReport _ _ => [.tracker, .table, .changed, .handed]
  | .anchorMissReport _ => [.tracker, .handed]
  | .holdoverExpiry => [.tracker, .table, .changed, .handed]
  | .cadenceStateNotice => [.plans, .links, .handed]
  | .changeNotice _ => [.plans, .links, .handed]
  | .guardChangeNotice _ => [.plans, .links, .handed]
  | .modeNotice => [.plans, .links, .handed]
  | .drainNotice _ => [.plans, .links, .handed]
  | .switchDone _ => [.plans, .links, .handed]
  | .switchFailed _ => [.plans, .links, .handed]
  | .switchTimeout _ => [.plans, .links, .handed]
  | .settleTimerExpiry _ => [.plans, .links, .handed]
  | .steeringRequest _ => [.handed]
  | .steeringResult _ => [.stations, .advised, .handed]
  | .attentionSetRequest _ => [.flags, .handed]
  | .checkFailed _ => portParts
  | .notReady => portParts
  | .unknownCommand _ _ => portParts
  | .nop => portParts
  | .place _ => portParts ++ [.table, .changed, .handed]
  | .interfererAmend _ => portParts ++ [.table, .changed, .handed]
  | .pin _ => portParts ++ [.table, .changed, .handed]
  | .unpin _ => portParts ++ [.table, .changed, .handed]
  | .retire _ => portParts ++ [.tracker, .table, .changed, .handed]
  | .interfererRead _ => portParts
  | .scan => portParts
  | .admitStation _ => portParts ++ [.stations]
  | .stationAmend _ => portParts ++ [.stations, .advised]
  | .release _ => portParts ++ [.stations, .advised]
  | .stationRead _ => portParts
  | .find _ => portParts
  | .push _ _ _ => portParts ++ [.plans, .links, .handed]
  | .pop _ => portParts ++ [.plans, .links, .handed]
  | .continueLane _ => portParts ++ [.plans]
  | .readPlans _ => portParts
  | .eval _ _ => portParts
  | .enable _ => portParts ++ [.plans, .links, .handed]
  | .disable _ => portParts ++ [.plans, .grants, .handed]
  | .laneReset _ => portParts ++ [.grants, .plans, .links, .handed]
  | .readLane _ => portParts
  | .setParameter _ _ _ => portParts ++ [.params, .grants, .handed]
  | .getParameter _ _ => portParts
  | .setMode _ => portParts ++ [.mode, .handed]
  | .status => portParts
  | .readAttention => portParts
  | .clearAttention _ => portParts ++ [.flags]
  | .takeChanges => portParts ++ [.changed, .advised]
  | .receptionRestartAfterIdleGap _ => [.links]

/-- An owner that reads answers with the state as it found it. -/
theorem transact_read {c : Instr} {s t : State} {owner : State → State × Response} (h : transact c s owner = .next t)
    (reads : ∀ u, (owner u).1 = u) : ChangesOnly portParts s t := by
  simpa using transact_changesOnly (w := []) h fun u => by rw [reads]; exact .refl _ u

theorem withLane_read {lane : Byte} {s : State} {f : Lane → State × Response} (h : ∀ l, (f l).1 = s) :
    (withLane lane s f).1 = s := by
  unfold withLane
  split
  · exact h _
  · rfl

theorem evalOwner_read (lane : Byte) (target : EvalTarget) (s : State) : (evalOwner lane target s).1 = s := by
  refine withLane_read fun l => ?_
  cases target with
  | position n =>
    dsimp only
    split
    · rfl
    · split
      · rfl
      · split <;> rfl
  | adHoc raw =>
    dsimp only
    split
    · rfl
    · split
      · rfl
      · split <;> rfl

theorem interfererRead_read (slot : Byte) (s : State) :
    (withRecord slot s fun k r => (s, ⟨.done, interfererBody s k r⟩)).1 = s := by
  unfold withRecord
  split
  · rfl
  · split <;> rfl

theorem stationReadOwner_read (slot : Byte) (s : State) : (stationReadOwner slot s).1 = s := by
  unfold stationReadOwner
  split
  · rfl
  · rfl
  · split <;> rfl

theorem findOwner_read (a : Address) (s : State) : (findOwner a s).1 = s := by
  unfold findOwner
  split <;> rfl

theorem getParameterOwner_read (n q : Byte) (s : State) : (getParameterOwner n q s).1 = s := by
  unfold getParameterOwner
  split <;> rfl

theorem exec_softReset_changesOnly {s t : State} (h : execSoftReset s = .next t) :
    ChangesOnly (footprint .softReset) s t := by
  unfold execSoftReset at h
  split at h
  · cases h
    refine ((State.port?_changesOnly ‹_›).mono (by simp [footprint])).trans ?_
    intro p out; cases p <;> first | exact (out (by decide)).elim | rfl
  · cases h
    exact (s.carryNotReady_changesOnly _).mono (by simp [footprint])

theorem exec_checkFailed_changesOnly {sdi : List Bool} {s t : State} (h : execCheckFailed sdi s = .next t) :
    ChangesOnly portParts s t := by
  unfold execCheckFailed at h
  split at h
  · cases h
    refine (State.port?_changesOnly ‹_›).trans ?_
    intro p out; cases p <;> first | exact (out (by decide)).elim | rfl
  · cases h
    exact s.carryNotReady_changesOnly _

/-- No command changes a part outside its footprint. -/
theorem exec_changesOnly {c : Instr} {s t : State} (h : exec c s = .next t) : ChangesOnly (footprint c) s t := by
  have taken (x : Handed) {w : List Part} (f : State → State) (effect : ∀ u, ChangesOnly w u (f u)) :
      ChangesOnly (w ++ [.handed]) s (f (s.taking x)) :=
    ((s.taking_changesOnly x).mono (by simp)).trans ((effect _).mono (by simp))
  cases c with
  | powerOnReset => cases h; intro p out; cases p <;> first | exact (out (by decide)).elim | rfl
  | resetRelease =>
    cases h
    exact .ite (.refl _ s) (by intro p out; cases p <;> first | exact (out (by decide)).elim | rfl)
  | tick => exact event_changesOnly (show execTick s = _ from h) (s.toNextTick_changesOnly _)
  | softReset => exact exec_softReset_changesOnly (show execSoftReset s = _ from h)
  | softResetBlock b => exact event_changesOnly (show execSoftResetBlock b s = _ from h) (s.takeReset_changesOnly b)
  | laneMessageArrival l e =>
    refine event_changesOnly (show execLaneMessageArrival l e s = _ from h) ?_
    cases e with
    | firstByte => exact s.beginReception_changesOnly l
    | ends bytes => exact s.endReception_changesOnly l bytes
  | helloArrival l => exact event_changesOnly (show execHelloArrival l s = _ from h) (s.helloArrives_changesOnly l)
  | hello l =>
    have emptied := (s.emptyHolder_changesOnly l).mono (w := [.grants, .plans, .links, .handed]) (by simp)
    exact event_changesOnly (show execHello l s = _ from h) (.ite (.ite (emptied.trans (State.restartLane_changesOnly _ l)) emptied) (.refl _ s))
  | outboundSend l => exact event_changesOnly (show execOutboundSend l s = _ from h) (s.sendHead_changesOnly l)
  | query =>
    refine event_changesOnly (show execQuery s = _ from h) ?_
    split
    · exact s.takeQuery_changesOnly _
    · exact .refl _ s
  | outcome l => exact event_changesOnly (show execOutcome l s = _ from h) (.ite (s.takeOutcome_changesOnly l) (.refl _ s))
  | grantExpiry l id => exact event_changesOnly (show execGrantExpiry l id s = _ from h) (s.expireGrant_changesOnly l id)
  | counterClaim a r =>
    exact event_changesOnly (show execCounterClaim a r s = _ from h) ((taken _ (·.counterClaim a r) fun u => u.counterClaim_changesOnly a r).mono
      (by simp [footprint]))
  | survey =>
    refine event_changesOnly (show execSurvey s = _ from h) ?_
    split
    · exact s.takeSurvey_changesOnly _
    · exact .refl _ s
  | riseReport k rise =>
    exact event_changesOnly (show execRiseReport k rise s = _ from h) ((taken _ (·.takeRise k rise) fun u => u.takeRise_changesOnly k rise).mono
      (by simp [footprint]))
  | anchorMissReport k =>
    exact event_changesOnly (show execAnchorMissReport k s = _ from h) ((taken _ (·.takeMiss k) fun u => u.takeMiss_changesOnly k).mono (by simp [footprint]))
  | holdoverExpiry => exact event_changesOnly (show execHoldoverExpiry s = _ from h) s.expireHoldover_changesOnly
  | cadenceStateNotice =>
    exact event_changesOnly (show execCadenceStateNotice s = _ from h) ((taken _ (·.judgeAll) fun u => u.judgeAll_changesOnly).mono (by simp [footprint]))
  | changeNotice k =>
    exact event_changesOnly (show execChangeNotice k s = _ from h) ((taken _ (·.judgeAll) fun u => u.judgeAll_changesOnly).mono (by simp [footprint]))
  | guardChangeNotice l =>
    exact event_changesOnly (show execGuardChangeNotice l s = _ from h) ((taken _ (·.judgeAll) fun u => u.judgeAll_changesOnly).mono (by simp [footprint]))
  | modeNotice =>
    exact event_changesOnly (show execModeNotice s = _ from h) ((taken _ (·.judgeAll) fun u => u.judgeAll_changesOnly).mono (by simp [footprint]))
  | drainNotice l =>
    exact event_changesOnly (show execDrainNotice l s = _ from h) ((taken _ (·.takeDrain l) fun u => u.takeDrain_changesOnly l).mono (by simp [footprint]))
  | switchDone l =>
    exact event_changesOnly (show execSwitchDone l s = _ from h) (s.takeHeldAnswer_changesOnly l _ _ fun u w => u.completeSwitch_changesOnly l w)
  | switchFailed l =>
    exact event_changesOnly (show execSwitchFailed l s = _ from h) (s.takeHeldAnswer_changesOnly l _ _ fun u w => u.failSwitch_changesOnly l w)
  | switchTimeout l => exact event_changesOnly (show execSwitchTimeout l s = _ from h) (s.expireSwitch_changesOnly l)
  | settleTimerExpiry l => exact event_changesOnly (show execSettleTimerExpiry l s = _ from h) (s.expireSettle_changesOnly l)
  | steeringRequest r => exact event_changesOnly (show execSteeringRequest r s = _ from h) ((s.taking_changesOnly _).trans (State.hand_changesOnly _ _ _))
  | steeringResult x =>
    exact event_changesOnly (show execSteeringResult x s = _ from h) ((taken _ (·.applySteering x) fun u => u.applySteering_changesOnly x).mono
      (by simp [footprint]))
  | attentionSetRequest f =>
    refine event_changesOnly (w := [.flags, .handed]) (show execAttentionSetRequest f s = _ from h) ?_
    dsimp only
    intro p out; cases p <;> first | exact (out (by decide)).elim | rfl
  | checkFailed sdi => exact exec_checkFailed_changesOnly (show execCheckFailed sdi s = _ from h)
  | notReady => cases h; exact .ite (.refl _ s) (s.carryNotReady_changesOnly _)
  | unknownCommand code body => exact transact_read (show execUnknownCommand code body s = _ from h) fun _ => rfl
  | nop => exact transact_read (show execNop s = _ from h) fun _ => rfl
  | place a => exact transact_changesOnly (show execPlace a s = _ from h) (placeOwner_changesOnly a)
  | interfererAmend a => exact transact_changesOnly (show execInterfererAmend a s = _ from h) (interfererAmendOwner_changesOnly a)
  | pin slot => exact transact_changesOnly (show execPin slot s = _ from h) (pinOwner_changesOnly slot)
  | unpin slot => exact transact_changesOnly (show execUnpin slot s = _ from h) (unpinOwner_changesOnly slot)
  | retire slot => exact transact_changesOnly (show execRetire slot s = _ from h) (retireOwner_changesOnly slot)
  | interfererRead slot => exact transact_read (show execInterfererRead slot s = _ from h) (interfererRead_read slot)
  | scan => exact transact_read (show execScan s = _ from h) fun _ => rfl
  | admitStation a => exact transact_changesOnly (show execAdmitStation a s = _ from h) (admitOwner_changesOnly a)
  | stationAmend a => exact transact_changesOnly (show execStationAmend a s = _ from h) (stationAmendOwner_changesOnly a)
  | release slot => exact transact_changesOnly (show execRelease slot s = _ from h) (releaseOwner_changesOnly slot)
  | stationRead slot => exact transact_read (show execStationRead slot s = _ from h) (stationReadOwner_read slot)
  | find a => exact transact_read (show execFind a s = _ from h) (findOwner_read a)
  | push lane plan tolerance => exact transact_changesOnly (show execPush lane plan tolerance s = _ from h) (pushOwner_changesOnly lane plan tolerance)
  | pop lane => exact transact_changesOnly (show execPop lane s = _ from h) (popOwner_changesOnly lane)
  | continueLane lane => exact transact_changesOnly (show execContinueLane lane s = _ from h) (continueOwner_changesOnly lane)
  | readPlans lane => exact transact_read (show execReadPlans lane s = _ from h) fun _ => withLane_read fun _ => rfl
  | eval lane target => exact transact_read (show execEval lane target s = _ from h) (evalOwner_read lane target)
  | enable lane => exact transact_changesOnly (show execEnable lane s = _ from h) (enableOwner_changesOnly lane)
  | disable lane => exact transact_changesOnly (show execDisable lane s = _ from h) (disableOwner_changesOnly lane)
  | laneReset lane => exact transact_changesOnly (show execLaneReset lane s = _ from h) (laneResetOwner_changesOnly lane)
  | readLane lane => exact transact_read (show execReadLane lane s = _ from h) fun _ => withLane_read fun _ => rfl
  | setParameter n q v => exact transact_changesOnly (show execSetParameter n q v s = _ from h) (setParameterOwner_changesOnly n q v)
  | getParameter n q => exact transact_read (show execGetParameter n q s = _ from h) (getParameterOwner_read n q)
  | setMode m => exact transact_changesOnly (show execSetMode m s = _ from h) (setModeOwner_changesOnly m)
  | status => exact transact_read (show execStatus s = _ from h) fun _ => rfl
  | readAttention => exact transact_read (show execReadAttention s = _ from h) fun _ => rfl
  | clearAttention f =>
    refine transact_changesOnly (show execClearAttention f s = _ from h) fun u => .iteFst ?_ (.refl _ u)
    intro p out; cases p <;> first | exact (out (by decide)).elim | rfl
  | takeChanges =>
    refine transact_changesOnly (show execTakeChanges s = _ from h) fun u => ?_
    intro p out; cases p <;> first | exact (out (by decide)).elim | rfl
  | receptionRestartAfterIdleGap l => exact event_changesOnly (show execReceptionRestartAfterIdleGap l s = _ from h) (s.restartReception_changesOnly l)

/-! ## What a step can be -/

/-- The parts that a step may change before it executes anything, or without executing anything. -/
def idleParts : List Part := [.pending, .choices, .airTime, .tick, .ready, .response, .answer]

/-- A happening moves the time or the port, or is an event. -/
theorem happen_cases {x : Happening} {s t : State} (h : s.happen x = .next t) :
    ChangesOnly idleParts s t ∨ ∃ c, exec c s = .next t := by
  cases x with
  | event c => exact .inr ⟨c, h⟩
  | completion =>
    cases h
    cases s.answer with
    | none => exact .inl (.refl _ s)
    | some x => exact .inl (by intro p out; cases p <;> first | exact (out (by decide)).elim | rfl)
  | microsecond =>
    cases h
    exact .inl (by intro p out; cases p <;> first | exact (out (by decide)).elim | rfl)

/-- A step moves the queue, the count of choices, the time or the port, and executes one command or none. -/
theorem step_cases {s t : State} (h : step s = .next t) :
    ChangesOnly idleParts s t ∨ ∃ c u, ChangesOnly [.pending, .choices] s u ∧ exec c u = .next t := by
  unfold step at h
  split at h
  · exact .inr ⟨_, _, by intro p out; cases p <;> first | exact (out (by decide)).elim | rfl, h⟩
  · unfold State.autonomous at h
    split at h
    · split at h
      · cases h; exact .inl (.refl _ s)
      · rename_i x xs _
        have chosen := s.chose_changesOnly (x :: xs).length
        obtain moved | ⟨c, run⟩ := happen_cases h
        · exact .inl ((chosen.mono (by simp [idleParts])).trans moved)
        · exact .inr ⟨c, _, chosen.mono (by simp), run⟩
    · cases h; exact .inl (.refl _ s)

/-- What idle moves and every command keep, a step keeps. -/
theorem step_keeps {P : State → Prop} (idle : ∀ s t, ChangesOnly idleParts s t → P s → P t)
    (command : ∀ c s t, exec c s = .next t → P s → P t) {s t : State} (h : step s = .next t) (hs : P s) : P t := by
  obtain moved | ⟨c, u, moved, run⟩ := step_cases h
  · exact idle s t moved hs
  · exact command c u t run (idle s u (moved.mono (by simp [idleParts])) hs)

end Sys2Proof.Machine

/-! Invariants of the step. A property of some parts of the state is kept by whatever changes none of them, so a step keeps it
when the commands whose footprint meets those parts do. The statements of a command's and a step's answer follow. -/

namespace Sys2Proof.Machine

open Sys2Proof

/-! ## Properties of some parts of the state -/

/-- A property speaks of the parts listed only. -/
def DependsOn (r : List Part) (P : State → Prop) : Prop := ∀ s t : State, (∀ p ∈ r, s.sameAt t p) → P s → P t

theorem DependsOn.keep {r w : List Part} {P : State → Prop} (d : DependsOn r P) {s t : State} (h : ChangesOnly w s t)
    (apart : ∀ p ∈ r, p ∉ w) (hs : P s) : P t := d s t (fun p i => h p (apart p i)) hs

/-- A step keeps a property when every command does whose footprint meets the parts it speaks of. -/
theorem DependsOn.step {r : List Part} {P : State → Prop} (d : DependsOn r P) (idle : ∀ p ∈ r, p ∉ idleParts)
    (command : ∀ c s t, (∃ p ∈ r, p ∈ footprint c) → exec c s = .next t → P s → P t) {s t : State}
    (h : step s = .next t) (hs : P s) : P t := by
  refine step_keeps (fun s t moved => d.keep moved idle) (fun c s t run ps => ?_) h hs
  by_cases touched : ∃ p ∈ r, p ∈ footprint c
  · exact command c s t touched run ps
  · exact d.keep (exec_changesOnly run) (fun p i j => touched ⟨p, i, j⟩) ps

theorem DependsOn.and {r : List Part} {P Q : State → Prop} (p : DependsOn r P) (q : DependsOn r Q) :
    DependsOn r fun s => P s ∧ Q s := fun s t h ⟨hp, hq⟩ => ⟨p s t h hp, q s t h hq⟩

/-- An event keeps what its effect keeps. -/
theorem event_keeps {P : State → Prop} {s t : State} {f : State → State} (h : event s f = .next t) (hs : P s)
    (effect : P s → P (f s)) : P t := by
  obtain ⟨-, rfl⟩ | ⟨-, rfl⟩ := event_cases h
  · exact hs
  · exact effect hs

/-- A transaction keeps what does not speak of the port and its owner keeps. -/
theorem DependsOn.transact {r : List Part} {P : State → Prop} (d : DependsOn r P) (port : ∀ p ∈ r, p ∉ portParts)
    {c : Instr} {s t : State} {owner : State → State × Response} (h : transact c s owner = .next t) (hs : P s)
    (effect : ∀ u, P u → P (owner u).1) : P t := by
  obtain ⟨n, rfl⟩ | ⟨u, found, rfl⟩ := transact_cases h
  · exact d.keep (s.carryNotReady_changesOnly n) port hs
  · exact d.keep (State.answering_changesOnly _ _ _) port (effect u (d.keep found port hs))

/-- TICK keeps what does not speak of the time and every prompt event keeps. -/
theorem DependsOn.tick {r : List Part} {P : State → Prop} (d : DependsOn r P)
    (time : ∀ p ∈ r, p ∉ [Part.airTime, .tick, .choices]) {s t : State} (h : execTick s = .next t) (hs : P s)
    (prompt : ∀ u x, P u → P (State.takePrompt u x)) : P t :=
  event_keeps (f := State.toNextTick Config.tickRounds) h hs
    (s.toNextTick_induction (fun _ _ moved => d.keep moved time) prompt _)

theorem withLane_keeps {P : State → Prop} {lane : Byte} {s : State} {f : Lane → State × Response} (hs : P s)
    (h : ∀ l, P (f l).1) : P (withLane lane s f).1 := by
  unfold withLane
  split
  · exact h _
  · exact hs

/-! ## Every command answers -/

theorem transact_answers (c : Instr) (s : State) (owner : State → State × Response) : ∃ t, transact c s owner = .next t := by
  unfold transact
  split
  · exact ⟨_, rfl⟩
  · exact ⟨_, rfl⟩

/-- Every command is an event, a transaction, or one of the five others, and each of these answers. -/
theorem exec_answers (c : Instr) (s : State) : ∃ t, exec c s = .next t := by
  cases c with
  | softReset =>
    show ∃ t, execSoftReset s = .next t
    unfold execSoftReset
    split <;> exact ⟨_, rfl⟩
  | checkFailed sdi =>
    show ∃ t, execCheckFailed sdi s = .next t
    unfold execCheckFailed
    split <;> exact ⟨_, rfl⟩
  | powerOnReset | resetRelease | notReady | tick | softResetBlock | laneMessageArrival | helloArrival | hello | outboundSend | query | outcome | grantExpiry
  | counterClaim | survey | riseReport | anchorMissReport | holdoverExpiry | cadenceStateNotice | changeNotice
  | guardChangeNotice | modeNotice | drainNotice | switchDone | switchFailed | switchTimeout | settleTimerExpiry
  | steeringRequest | steeringResult | attentionSetRequest | receptionRestartAfterIdleGap => exact ⟨_, rfl⟩
  | _ => exact transact_answers _ _ _

theorem exec_pending {c : Instr} {s t : State} (h : exec c s = .next t) : t.pending = s.pending := by
  refine exec_changesOnly h .pending fun i => ?_
  cases c with
  | softResetBlock b => cases b <;> simp [footprint, resetParts] at i
  | _ => simp [footprint, portParts, State.tickParts] at i

theorem step_answers (s : State) : ∃ t, step s = .next t := by
  unfold step
  split
  · exact exec_answers _ _
  · unfold State.autonomous
    split
    · split
      · exact ⟨_, rfl⟩
      · unfold State.happen
        split
        · exact exec_answers _ _
        · exact ⟨_, rfl⟩
        · exact ⟨_, rfl⟩
    · exact ⟨_, rfl⟩

/-- Settles O1: a queue with a command at its front is the first case of step. -/
theorem stepTakesFrontCommand : Obligations.StepTakesFrontCommand := by
  unfold Obligations.StepTakesFrontCommand
  exact fun _ _ _ => rfl

/-- Settles O2: every command answers, and the queue of commands is in no command's footprint. -/
theorem everyCommandAnswers : Obligations.EveryCommandAnswers := by
  unfold Obligations.EveryCommandAnswers
  refine ⟨fun c s => ?_, step_answers⟩
  obtain ⟨t, run⟩ := exec_answers c s
  exact ⟨t, run, exec_pending run⟩

end Sys2Proof.Machine

/-! The grants of a lane between two states (R143 to R150). Outside a reset, a GO and a SET PARAMETER, a lane's grants only
become fewer, its OK run is counted or cleared, and its edge guard moves within its range. That is said once as a relation;
the ranges and the separation of the grants then follow from it, with the three other commands apart. -/

namespace Sys2Proof.Machine

open Sys2Proof

/-! ## What an operation leaves of the grants -/

namespace State

variable (s : State)

@[simp] theorem hand_grants (src : Block) (x : Handed) : (s.hand src x).grants = s.grants :=
  s.hand_changesOnly src x .grants (by decide)

/-- The move of an edge guard to its own value is no move. -/
theorem moveGuard_grants (l : Lane) (n : Nat) :
    (s.moveGuard l n).grants = s.grants.set l { s.grants.get l with edgeGuard := n } := by
  unfold moveGuard
  split
  case isTrue same => rw [same]; exact (PerLane.set_get _ _).symm
  case isFalse => exact hand_grants _ _ _

/-- The closure of a lane's grants by the Plan Stacks. -/
theorem closeLane_grants (l : Lane) :
    (s.closeLane l).grants =
      if s.crossesReset .pls .gre then s.grants
      else s.grants.set l { s.grants.get l with
        outstanding := []
        lastClosure := match (s.grants.get l).outstanding.getLast? with
          | some x => some ⟨x.id, .laneReset, none⟩
          | none => (s.grants.get l).lastClosure } := by
  unfold closeLane
  split
  · rfl
  · split
    · rename_i none
      have empty : (s.grants.get l).outstanding = [] := List.getLast?_eq_none_iff.mp none
      have same : { s.grants.get l with outstanding := [], lastClosure := (s.grants.get l).lastClosure } = s.grants.get l := by
        rw [← empty]
      simp [same, none]
    · rename_i x last
      simp [last]

end State

/-! ## The moves of one lane's grants -/

/-- The value lies in GUARD_FLOOR to GUARD_CEILING. -/
def Params.InGuard (p : Params) (n : Nat) : Prop := p.guardFloor ≤ n ∧ n ≤ p.guardCeiling

/-- A lane's grants became fewer, the OK run was counted below GUARD_RELAX_RUN or cleared, or the edge guard took a value
that lies in its range whenever the one before does. -/
inductive GrantLane.Moves (p : Params) : GrantLane → GrantLane → Prop where
  | refl (g : GrantLane) : Moves p g g
  | trans {g h k : GrantLane} : Moves p g h → Moves p h k → Moves p g k
  | fewer (g : GrantLane) {out : List Grant} (c : Option Closure) :
      out.Sublist g.outstanding → Moves p g { g with outstanding := out, lastClosure := c }
  | counted (g : GrantLane) {n : Nat} : n = 0 ∨ n < p.guardRelaxRun → Moves p g { g with okRun := n }
  | guarded (g : GrantLane) {n : Nat} : (p.InGuard g.edgeGuard → p.InGuard n) → Moves p g { g with edgeGuard := n }

/-- The moves of every lane's grants between two states with the same parameters. -/
structure GrantsMove (s t : State) : Prop where
  params : t.params = s.params
  lanes : ∀ l : Lane, GrantLane.Moves s.params (s.grants.get l) (t.grants.get l)

namespace GrantsMove

variable {s t u : State}

theorem refl (s : State) : GrantsMove s s := ⟨rfl, fun _ => .refl _⟩

theorem trans (first : GrantsMove s t) (second : GrantsMove t u) : GrantsMove s u :=
  ⟨second.params.trans first.params, fun l => (first.lanes l).trans (first.params ▸ second.lanes l)⟩

theorem of_same {w : List Part} (h : ChangesOnly w s t) (params : .params ∉ w) (grants : .grants ∉ w) : GrantsMove s t := by
  have same : t.grants = s.grants := h .grants grants
  exact ⟨h .params params, fun l => same ▸ .refl _⟩

/-- A move of one lane's grants, whatever else but parameters and grants it comes with. -/
theorem of_set {l : Lane} {g : GrantLane} (params : t.params = s.params) (set : t.grants = s.grants.set l g)
    (moves : GrantLane.Moves s.params (s.grants.get l) g) : GrantsMove s t := by
  refine ⟨params, fun m => ?_⟩
  rw [set, PerLane.get_set]
  split
  case isTrue same => exact same ▸ moves
  case isFalse => exact .refl _

theorem ite {c : Prop} [Decidable c] (yes : c → GrantsMove s t) (no : ¬c → GrantsMove s u) :
    GrantsMove s (if c then t else u) := by
  split
  · exact yes ‹_›
  · exact no ‹_›

end GrantsMove

/-! ## The moves of the operations -/

theorem Params.Ok.initialInGuard {p : Params} (ok : p.Ok) : p.InGuard p.guardInitial := by
  have cross := ok.cross
  simp only [Params.cross, Bool.and_eq_true, decide_eq_true_eq] at cross
  exact ⟨cross.1.2, cross.2⟩

theorem Params.Ok.floorInGuard {p : Params} (ok : p.Ok) : p.InGuard p.guardFloor :=
  ⟨le_refl _, ok.initialInGuard.1.trans ok.initialInGuard.2⟩

namespace State

variable (s : State)

theorem moveGuard_moves (l : Lane) (n : Nat) (h : s.params.InGuard (s.grants.get l).edgeGuard → s.params.InGuard n) :
    GrantsMove s (s.moveGuard l n) :=
  .of_set (s.moveGuard_changesOnly l n .params (by decide)) (s.moveGuard_grants l n) (.guarded _ h)

theorem setOkRun_moves (l : Lane) {n : Nat} (h : n = 0 ∨ n < s.params.guardRelaxRun) : GrantsMove s (s.setOkRun l n) :=
  .of_set rfl rfl (.counted _ h)

theorem closeLane_moves (l : Lane) : GrantsMove s (s.closeLane l) := by
  have params := s.closeLane_changesOnly l .params (by decide)
  have grants := s.closeLane_grants l
  split at grants
  · exact ⟨params, fun m => grants ▸ .refl _⟩
  · exact .of_set params grants (.fewer _ _ (List.nil_sublist _))

theorem resetGuard_moves (ok : s.params.Ok) (l : Lane) : GrantsMove s (s.resetGuard l) :=
  .ite (fun _ => .refl s) fun _ =>
    (s.setOkRun_moves l (.inl rfl)).trans (moveGuard_moves _ l _ fun _ => ok.initialInGuard)

theorem removeGrant_moves (l : Lane) (id : Byte) (code : ClosingCode) (used : Option Nat) :
    GrantsMove s (s.removeGrant l id code used) :=
  .of_set rfl rfl (.fewer _ _ List.eraseP_sublist)

theorem noticeDrain_moves (l : Lane) : GrantsMove s (s.noticeDrain l) :=
  .of_same (s.noticeDrain_changesOnly l) (by decide) (by decide)

theorem sendOut_moves (src : Block) (l : Lane) (m : OutMsg) : GrantsMove s (s.sendOut src l m) :=
  .of_same (s.sendOut_changesOnly src l m) (by decide) (by decide)

theorem claimFor_changesOnly (x : Grant) (r : ClaimResult) : ChangesOnly [.handed] s (s.claimFor x r) := by
  unfold claimFor
  split
  · exact s.hand_changesOnly _ _
  · exact .refl _ s
  · exact .refl _ s

/-- An OK outcome counts the run, or lowers the guard no further than its floor (R147). -/
theorem creditLane_moves (ok : s.params.Ok) (l : Lane) : GrantsMove s (s.creditLane l) := by
  refine .ite (fun _ => ?_) fun short => s.setOkRun_moves l (.inr (Nat.lt_of_not_le short))
  refine (s.setOkRun_moves l (.inl rfl)).trans (moveGuard_moves _ l _ fun within => ?_)
  have within : s.params.InGuard (s.grants.get l).edgeGuard := by simpa [setOkRun] using within
  have floor := ok.floorInGuard
  exact ⟨Nat.le_max_right _ _, Nat.max_le.mpr ⟨(Nat.sub_le _ _).trans within.2, floor.2⟩⟩

/-- A LOST outcome clears the run, and raises the guard no further than its ceiling (R148). -/
theorem chargeLane_moves (ok : s.params.Ok) (l : Lane) (x : Grant) : GrantsMove s (s.chargeLane l x) := by
  have cleared := s.setOkRun_moves l (.inl rfl)
  refine .ite (fun _ => cleared.trans (moveGuard_moves _ l _ fun within => ?_)) fun _ => cleared
  have floor := ok.floorInGuard
  exact ⟨Nat.le_min.mpr ⟨within.1.trans (Nat.le_add_right _ _), floor.2⟩, Nat.min_le_right _ _⟩

theorem settleOutcome_moves (ok : s.params.Ok) (l : Lane) (x : Grant) (r : Outcome) :
    GrantsMove s (s.settleOutcome l x r) := by
  have claimed (r : ClaimResult) : GrantsMove s (s.claimFor x r) :=
    .of_same (s.claimFor_changesOnly x r) (by decide) (by decide)
  cases r with
  | ok => exact (claimed .ok).trans (creditLane_moves _ ((claimed .ok).params.symm ▸ ok) l)
  | lost => exact (claimed .lost).trans (chargeLane_moves _ ((claimed .lost).params.symm ▸ ok) l x)
  | abandoned => exact .refl s

theorem applyOutcome_moves (ok : s.params.Ok) (l : Lane) (o : OutcomeReport) : GrantsMove s (s.applyOutcome l o) := by
  unfold applyOutcome
  split
  · exact s.sendOut_moves _ l _
  · have closed := (s.removeGrant_moves l o.id (Outcome.code o.result) (some o.used)).trans
      (sendOut_moves _ .gre l (.outcomeAnswer .accepted o.id))
    exact (closed.trans (settleOutcome_moves _ (closed.params.symm ▸ ok) l _ o.result)).trans (noticeDrain_moves _ l)

theorem takeOutcome_moves (ok : s.params.Ok) (l : Lane) : GrantsMove s (s.takeOutcome l) := by
  have emptied : GrantsMove s (s.emptyHolder l) := .of_same (s.emptyHolder_changesOnly l) (by decide) (by decide)
  unfold takeOutcome
  dsimp only
  split
  · exact emptied
  · split
    · exact emptied.trans (applyOutcome_moves (s.emptyHolder l) ok l _)
    · exact emptied.trans (sendOut_moves _ _ l _)

theorem expireGrant_moves (l : Lane) (id : Byte) : GrantsMove s (s.expireGrant l id) := by
  unfold expireGrant
  split
  · exact .refl s
  · exact .ite (fun _ => (s.removeGrant_moves l id .expired none).trans (noticeDrain_moves _ l)) fun _ => .refl s

theorem takePrompt_moves (ok : s.params.Ok) (p : Prompt) : GrantsMove s (s.takePrompt p) := by
  cases p with
  | holdoverExpiry => exact .of_same s.expireHoldover_changesOnly (by decide) (by decide)
  | grantExpiry l id => exact s.expireGrant_moves l id
  | switchTimeout l => exact .of_same (s.expireSwitch_changesOnly l) (by decide) (by decide)
  | settleTimerExpiry l => exact .of_same (s.expireSettle_changesOnly l) (by decide) (by decide)
  | outcome l => exact .ite (fun _ => s.takeOutcome_moves ok l) fun _ => .refl s

theorem restartLane_moves (ok : s.params.Ok) (l : Lane) : GrantsMove s (s.restartLane l) := by
  have closed := s.closeLane_moves l
  have reset := closed.trans (resetGuard_moves _ (closed.params.symm ▸ ok) l)
  have rest : ChangesOnly [.plans, .links, .handed] ((s.closeLane l).resetGuard l) (s.restartLane l) := by
    have sent (t : State) : ChangesOnly [.plans, .links, .handed] t (t.sendWelcome l) :=
      (t.sendOut_changesOnly _ l _).mono (by simp)
    exact .ite (sent _) (((setPlan_changesOnly _ l _).mono (by simp)).trans (sent _) |>.trans (restoreTop_changesOnly _ l))
  exact reset.trans (.of_same rest (by decide) (by decide))

theorem takeOutOfService_moves (l : Lane) : GrantsMove s (s.takeOutOfService l) :=
  (s.closeLane_moves l).trans (.of_same (setPlan_changesOnly _ l _) (by decide) (by decide))

end State

/-! ## The moves of the commands -/

theorem event_moves {s t : State} {f : State → State} (h : event s f = .next t) (effect : GrantsMove s (f s)) :
    GrantsMove s t := event_keeps (P := GrantsMove s) h (.refl s) fun _ => effect

/-- An owner that moves the grants moves them through its transaction. -/
theorem transact_moves {c : Instr} {s t : State} {owner : State → State × Response} (h : transact c s owner = .next t)
    (ok : s.params.Ok) (effect : ∀ u, u.params.Ok → GrantsMove u (owner u).1) : GrantsMove s t := by
  obtain ⟨n, rfl⟩ | ⟨u, found, rfl⟩ := transact_cases h
  · exact .of_same (s.carryNotReady_changesOnly n) (by decide) (by decide)
  · have found : GrantsMove s u := .of_same found (by decide) (by decide)
    exact (found.trans (effect u (found.params.symm ▸ ok))).trans
      (.of_same (State.answering_changesOnly _ _ _) (by decide) (by decide))

/-- The commands that reset the grants, grant, or change the parameters. -/
def remakesGrants (c : Instr) : Bool :=
  match c with
  | .powerOnReset => true
  | .softResetBlock b => b == .gre
  | .query => true
  | .setParameter _ _ _ => true
  | _ => false

theorem withLane_moves {lane : Byte} {s : State} {f : Lane → State × Response} (h : ∀ l, GrantsMove s (f l).1) :
    GrantsMove s (withLane lane s f).1 := withLane_keeps (P := GrantsMove s) (.refl s) h

/-- Every other command moves the grants. -/
theorem exec_moves {c : Instr} {s t : State} (h : exec c s = .next t) (ok : s.params.Ok) (other : remakesGrants c = false) :
    GrantsMove s t := by
  by_cases touched : .params ∈ footprint c ∨ .grants ∈ footprint c
  case neg =>
    rw [not_or] at touched
    exact .of_same (exec_changesOnly h) touched.1 touched.2
  cases c with
  | tick =>
    refine event_moves (show execTick s = _ from h) ?_
    refine (State.toNextTick_induction s (P := GrantsMove s) ?_ ?_ _ (.refl s))
    · exact fun u v moved k => k.trans (.of_same moved (by decide) (by decide))
    · exact fun u p k => k.trans (u.takePrompt_moves (k.params.symm ▸ ok) p)
  | hello l =>
    have emptied : GrantsMove s (s.emptyHolder l) := .of_same (s.emptyHolder_changesOnly l) (by decide) (by decide)
    exact event_moves (show execHello l s = _ from h) (.ite (fun _ => .ite (fun _ =>
      emptied.trans (State.restartLane_moves (s.emptyHolder l) ok l)) fun _ => emptied) fun _ => .refl s)
  | outcome l =>
    exact event_moves (show execOutcome l s = _ from h) (.ite (fun _ => s.takeOutcome_moves ok l) fun _ => .refl s)
  | grantExpiry l id => exact event_moves (show execGrantExpiry l id s = _ from h) (s.expireGrant_moves l id)
  | disable lane =>
    refine transact_moves (show execDisable lane s = _ from h) ok fun u _ => withLane_moves fun l => ?_
    split
    · exact .refl u
    · exact u.takeOutOfService_moves l
  | laneReset lane =>
    refine transact_moves (show execLaneReset lane s = _ from h) ok fun u ok => withLane_moves fun l => ?_
    have link : GrantsMove u (u.restartLink l) := .of_same (u.setLink_changesOnly l _) (by decide) (by decide)
    exact link.trans (State.restartLane_moves (u.restartLink l) ok l)
  | softResetBlock b => cases b <;> simp [footprint, resetParts, remakesGrants] at touched other
  | powerOnReset | query | setParameter => cases other
  | _ => simp [footprint, portParts] at touched

/-! ## What the moves keep -/

theorem GrantLane.Moves.inGuard {p : Params} {g h : GrantLane} (moves : GrantLane.Moves p g h) :
    p.InGuard g.edgeGuard → p.InGuard h.edgeGuard := by
  induction moves with
  | refl => exact id
  | trans _ _ first second => exact second ∘ first
  | fewer => exact id
  | counted => exact id
  | guarded g h => exact h

theorem GrantLane.Moves.ok {p : Params} (params : p.Ok) {g h : GrantLane} (moves : GrantLane.Moves p g h) :
    g.Ok → h.Ok := by
  induction moves with
  | refl => exact id
  | trans _ _ first second => exact second ∘ first
  | fewer g c less =>
    intro ok
    exact ⟨less.length_le.trans ok.atMostTwo, ok.idsDiffer.sublist less, ok.apart.sublist less,
      fun x i => ok.caps x (less.subset i), ok.okRun⟩
  | counted g below =>
    intro ok
    have most := (params.inRange .guardRelaxRun).2
    simp only [Params.numeric, Numeric.range] at most
    exact ⟨ok.atMostTwo, ok.idsDiffer, ok.apart, ok.caps, by dsimp only; omega⟩
  | guarded g _ => exact fun ok => ⟨ok.atMostTwo, ok.idsDiffer, ok.apart, ok.caps, ok.okRun⟩

/-- A lane without grants gets none. -/
theorem GrantLane.Moves.empty {p : Params} {g h : GrantLane} (moves : GrantLane.Moves p g h) :
    g.outstanding = [] → h.outstanding = [] := by
  induction moves with
  | refl => exact id
  | trans _ _ first second => exact second ∘ first
  | fewer g c less => exact fun none => List.sublist_nil.mp (none ▸ less)
  | counted => exact id
  | guarded => exact id

end Sys2Proof.Machine

/-! Parameters and edge guards (R149, R172). SET PARAMETER stores a value in its range that keeps the cross-conditions, and
a new GUARD_FLOOR or GUARD_CEILING clamps every lane's edge guard; every other command moves the guards within their range. -/

namespace Sys2Proof.Machine

open Sys2Proof

/-! ## The parameters (R172) -/

theorem Params.numeric_setNumeric (p : Params) (m n : Numeric) (v : Nat) :
    (p.setNumeric n v).numeric m = if m = n then v else p.numeric m := by
  cases n <;> cases m <;> rfl

/-- A parameter set that holds the same numbers is within its ranges as well. -/
theorem Params.Ok.of_same {p q : Params} (ok : p.Ok) (same : ∀ n, q.numeric n = p.numeric n) : q.Ok := by
  refine ⟨fun n => same n ▸ ok.inRange n, ?_⟩
  have cross := ok.cross
  have fade := same .fadeMisses
  have retire := same .retireMisses
  have floor := same .guardFloor
  have ceiling := same .guardCeiling
  have initial := same .guardInitial
  simp only [Params.numeric] at fade retire floor ceiling initial
  simpa only [Params.cross, fade, retire, floor, ceiling, initial] using cross

theorem Params.Ok.set? {p q : Params} {x : Param} {v : Nat} (ok : p.Ok) (set : p.set? x v = some q) : q.Ok := by
  cases x with
  | numeric n =>
    simp only [Params.set?, Option.ite_none_right_eq_some, Option.some.injEq] at set
    obtain ⟨⟨low, high, cross⟩, rfl⟩ := set
    refine ⟨fun m => ?_, cross⟩
    rw [Params.numeric_setNumeric]
    split
    case isTrue same => exact same ▸ ⟨low, high⟩
    case isFalse => exact ok.inRange m
  | mains | overflowMask | underflowMask | holdoff | attentionMask =>
    obtain ⟨_, -, rfl⟩ := Option.map_eq_some_iff.mp set
    exact ok.of_same fun n => by cases n <;> rfl

/-- Only a new GUARD_FLOOR or GUARD_CEILING moves the range of the guards. -/
theorem Params.set?_inGuard {p q : Params} {x : Param} {v : Nat} (set : p.set? x v = some q)
    (other : x.clampsGuards = false) (n : Nat) : q.InGuard n ↔ p.InGuard n := by
  cases x with
  | numeric m =>
    simp only [Params.set?, Option.ite_none_right_eq_some, Option.some.injEq] at set
    obtain ⟨-, rfl⟩ := set
    cases m with
    | guardFloor => cases other
    | guardCeiling => cases other
    | _ => rfl
  | mains | overflowMask | underflowMask | holdoff | attentionMask =>
    obtain ⟨_, -, rfl⟩ := Option.map_eq_some_iff.mp set
    rfl

/-! ## The clamp of the guards (R149) -/

namespace State

variable (s : State)

@[simp] theorem clampGuard_params (l : Lane) : (s.clampGuard l).params = s.params :=
  s.moveGuard_changesOnly l _ .params (by decide)

theorem clampGuard_grants (l : Lane) :
    (s.clampGuard l).grants = s.grants.set l { s.grants.get l with
      edgeGuard := min (max (s.grants.get l).edgeGuard s.params.guardFloor) s.params.guardCeiling } :=
  s.moveGuard_grants l _

/-- A clamp brings its lane's guard into the range, and leaves another lane's there. -/
theorem clampGuard_inGuard {p : Params} (same : s.params = p) (ok : p.Ok) {l m : Lane}
    (h : m = l ∨ p.InGuard (s.grants.get m).edgeGuard) : p.InGuard ((s.clampGuard l).grants.get m).edgeGuard := by
  have floor := ok.floorInGuard
  rw [clampGuard_grants, PerLane.get_set, same]
  split
  case isTrue => exact ⟨Nat.le_min.mpr ⟨Nat.le_max_right _ _, floor.2⟩, Nat.min_le_right _ _⟩
  case isFalse other => exact h.resolve_left other

/-- The three clamps bring every lane's guard into the range. -/
theorem clampGuards_inGuard (ok : s.params.Ok) (l : Lane) :
    s.params.InGuard ((((s.clampGuard .l0).clampGuard .l1).clampGuard .l2).grants.get l).edgeGuard := by
  have first := s.clampGuard_params .l0
  have second := ((s.clampGuard .l0).clampGuard_params .l1).trans first
  refine clampGuard_inGuard _ second ok ?_
  cases l with
  | l0 => exact .inr (clampGuard_inGuard _ first ok (.inr (s.clampGuard_inGuard rfl ok (.inl rfl))))
  | l1 => exact .inr (clampGuard_inGuard _ first ok (.inl rfl))
  | l2 => exact .inl rfl

end State

/-! ## The invariant -/

/-- Parameters and edge guards are as their tables say. -/
def State.GuardedOk (s : State) : Prop := s.params.Ok ∧ ∀ l : Lane, s.params.InGuard (s.grants.get l).edgeGuard

theorem guardedOk_dependsOn : DependsOn [.params, .grants] State.GuardedOk := by
  intro s t same ⟨ok, guards⟩
  have params : t.params = s.params := same .params (by simp)
  have grants : t.grants = s.grants := same .grants (by simp)
  exact ⟨params ▸ ok, fun l => params ▸ grants ▸ guards l⟩

theorem State.GuardedOk.of_moves {s t : State} (h : s.GuardedOk) (moves : GrantsMove s t) : t.GuardedOk :=
  ⟨moves.params ▸ h.1, fun l => moves.params ▸ (moves.lanes l).inGuard (h.2 l)⟩

theorem Params.default_ok : Params.default.Ok := ⟨by intro n; cases n <;> decide, by decide⟩

theorem setParameterOwner_guardedOk (n q : Byte) (v : BitVec 32) {s : State} (h : s.GuardedOk) :
    (setParameterOwner n q v s).1.GuardedOk := by
  unfold setParameterOwner
  split
  · exact h
  · split
    · exact h
    · rename_i p set
      have ok : p.Ok := h.1.set? set
      dsimp only
      split
      case isTrue =>
        refine ⟨by simpa using ok, fun l => ?_⟩
        simpa using State.clampGuards_inGuard { s with params := p } ok l
      case isFalse other =>
        exact ⟨ok, fun l => (Params.set?_inGuard set (by simpa using other) _).mpr (h.2 l)⟩

/-- Every command keeps parameters and guards in range. -/
theorem exec_guardedOk {c : Instr} {s t : State} (run : exec c s = .next t) (h : s.GuardedOk) : t.GuardedOk := by
  cases other : remakesGrants c with
  | false => exact h.of_moves (exec_moves run h.1 other)
  | true =>
    cases c with
    | powerOnReset =>
      cases run
      have guard : Params.default.InGuard 300 := Params.default_ok.initialInGuard
      exact ⟨Params.default_ok, fun l => by cases l <;> exact guard⟩
    | softResetBlock b =>
      cases (beq_iff_eq.mp other : b = .gre)
      refine event_keeps (show execSoftResetBlock .gre s = _ from run) h fun _ => ?_
      unfold State.takeReset
      split
      · have values : (({ (s.dropWork .gre).blockValues .gre with resets := s.resets.erase .gre } : State)).GuardedOk :=
          ⟨h.1, fun l => by cases l <;> exact h.1.initialInGuard⟩
        unfold State.finishSoftReset
        split
        · exact guardedOk_dependsOn _ _ (by simp [State.sameAt]) values
        · exact values
      · exact h
    | query =>
      have params : t.params = s.params := exec_changesOnly run .params (by simp [footprint])
      have guards (m : Lane) : (t.grants.get m).edgeGuard = (s.grants.get m).edgeGuard := by
        obtain ⟨l, same | ⟨x, -, -, moved⟩⟩ := execQuery_moves run
        · rw [same]
        · rw [moved, PerLane.get_set]
          split
          case isTrue same => rw [same]; rfl
          case isFalse => rfl
      exact ⟨params ▸ h.1, fun m => by rw [params, guards]; exact h.2 m⟩
    | setParameter n q v =>
      exact guardedOk_dependsOn.transact (by decide) (show execSetParameter n q v s = _ from run) h
        fun u hu => setParameterOwner_guardedOk n q v hu
    | _ => cases other

/-- Settles O5: every command keeps the parameters and the guards in their ranges, so every step does. -/
theorem stepKeepsParametersAndGuards : Obligations.StepKeepsParametersAndGuards := by
  unfold Obligations.StepKeepsParametersAndGuards
  exact fun s t params guards run => guardedOk_dependsOn.step (by decide) (fun _ _ _ _ => exec_guardedOk) run ⟨params, guards⟩

end Sys2Proof.Machine

/-! The outstanding grants of a lane (R126, R129, R137, R138). A GO goes to a lane with a slot free, takes an id that the
other grant does not hold, and starts at or after the end of the other's window, within one period of that or of the lead
time; so its window meets the other's on neither side of the wrap of the air time. -/

namespace Sys2Proof.Machine

open Sys2Proof

/-! ## Where an offer starts (R129 to R134) -/

theorem least_mem {xs : List Nat} {x : Nat} (h : least xs = some x) : x ∈ xs := by
  induction xs generalizing x with
  | nil => cases h
  | cons y ys ih =>
    unfold least at h
    split at h
    · cases h; exact List.mem_cons_self
    · rename_i z found
      cases h
      rcases min_choice y z with e | e <;> rw [e]
      · exact List.mem_cons_self
      · exact List.mem_cons_of_mem _ (ih found)

/-- The search looks at offsets of one period only. -/
theorem searchOffset_lt {p : Nat} (pos : 0 < p) {arcs : List Arc} {base : Int} {d t : Nat}
    (h : searchOffset p arcs base d = some t) : t < p := by
  have mem := List.mem_of_mem_filter (least_mem h)
  rcases List.mem_cons.mp mem with rfl | mem
  · exact pos
  · obtain ⟨a, -, rfl⟩ := List.mem_map.mp mem
    exact onCircle_lt pos _

/-- Blocking windows lower the cap. -/
theorem capAt_le (p : Nat) (arcs : List Arc) (x : Int) (d : Nat) : capAt p arcs x d ≤ d := by
  unfold capAt
  induction arcs generalizing d with
  | nil => exact le_refl d
  | cons a arcs ih => exact (ih _).trans (Nat.min_le_left _ _)

/-- An offer starts less than a period after the earliest start, and its cap is at most the airtime requested. -/
theorem State.offer_bounds {s : State} (ok : s.tracker.Ok) {e : AirTime} {top : PlanSpan} {w : Width} {g d dmin : Nat}
    {o : Offer} (h : s.offer e top w g d dmin = some o) : (∃ t, t < 22000 ∧ o.start = after e t) ∧ o.cap ≤ d := by
  have opened : ∃ t, t < 22000 ∧ (openOffer e top w d).start = after e t := ⟨0, by decide, by simp [openOffer, after]⟩
  unfold State.offer at h
  split at h
  · rename_i p predicting _
    obtain ⟨-, -, period⟩ := (Tracker.prediction_iff _ _).mp predicting
    have pos : 0 < p.period := by have := ok.periodLow; omega
    have bound (c : PlanSpan) (t : Nat) (found : s.searchSpan p e c g dmin = some t) : t < 22000 := by
      have small := searchOffset_lt pos found
      have := ok.periodHigh
      omega
    have offered (c c' : PlanSpan) (t : Nat) (n : Bool) (found : s.searchSpan p e c' g dmin = some t) :
        (∃ t', t' < 22000 ∧ (s.offerAt p e c g d t n).start = after e t') ∧ (s.offerAt p e c g d t n).cap ≤ d :=
      ⟨⟨t, bound c' t found, rfl⟩, capAt_le _ _ _ _⟩
    unfold State.predictedOffer at h
    split at h
    · cases h
    · rename_i pri found
      split at h
      · split at h
        · cases h; exact offered _ _ _ _ found
        · cases h; exact offered _ _ _ _ found
      · cases h; exact offered _ _ _ _ found
  · cases h; exact ⟨opened, le_refl d⟩
  · cases h; exact ⟨opened, le_refl d⟩

/-! ## Windows apart (R8, R129) -/

/-- The later of two times is at or after the first of them in the half of the circle that follows it. -/
theorem laterOf_sub_le (lead finish : AirTime) : (laterOf lead finish - finish).toNat ≤ 2 ^ 31 := by
  unfold laterOf
  split
  case isTrue => simp
  case isFalse h =>
    simp only [before, Bool.and_eq_true, decide_eq_true_eq, not_and_or, Nat.not_lt] at h
    bv_omega

/-- A window of at most 8,000 µs that starts at most 2^31 + 22,000 µs after another's end does not meet it. -/
theorem Window.intersects_eq_false {v w : Window} (short : v.length ≤ 8000) (short' : w.length ≤ 8000)
    (gap : (w.start - v.finish).toNat ≤ 2 ^ 31 + 22000) : v.intersects w = false := by
  have length : (BitVec.ofNat 32 v.length).toNat = v.length := by rw [BitVec.toNat_ofNat]; omega
  simp only [Window.finish, after] at gap
  rw [Bool.eq_false_iff]
  simp only [Window.intersects, Window.contains, ne_eq, Bool.and_eq_true, Bool.or_eq_true, decide_eq_true_eq, not_and_or,
    not_or, Nat.not_lt]
  by_cases empty : v.length = 0
  · exact .inl (.inl (by omega))
  · refine .inr ⟨?_, ?_⟩ <;> bv_omega

/-- A start less than a period after the earliest start is clear of the window of the last grant. -/
theorem State.earliestStart_gap {s : State} {l : Lane} {y : Grant} (last : (s.grants.get l).outstanding.getLast? = some y)
    {t : Nat} (ht : t < 22000) : (after (s.earliestStart l) t - y.window.finish).toNat ≤ 2 ^ 31 + 22000 := by
  have later := laterOf_sub_le (after s.airTime s.params.grantLead) y.window.finish
  simp only [State.earliestStart, last]
  generalize laterOf (after s.airTime s.params.grantLead) y.window.finish = e at *
  generalize y.window.finish = f at *
  have small : (BitVec.ofNat 32 t).toNat = t := by rw [BitVec.toNat_ofNat]; omega
  unfold after
  bv_omega

/-! ## A GO (R137, R138) -/

theorem GrantLane.takeId_fresh {g : GrantLane} {y : Grant} (only : g.outstanding = [y]) : y.id ≠ g.takeId := by
  unfold GrantLane.takeId
  rw [only]
  by_cases same : y.id = g.nextId
  · simp [same]
  · simp [same]

/-- A lane with a slot free stays as its table says when it is given a grant with the next id that starts within a period
of the earliest start. -/
theorem GrantLane.Ok.granted {s : State} {l : Lane} (ok : (s.grants.get l).Ok)
    (free : (s.grants.get l).outstanding.length < Config.grantSlots) {x : Grant} (id : x.id = (s.grants.get l).takeId)
    (start : ∃ t, t < 22000 ∧ x.start = after (s.earliestStart l) t) (cap : x.cap ≤ 8000) :
    ((s.grants.get l).granted x).Ok := by
  have one : (s.grants.get l).outstanding.length ≤ 1 := Nat.le_of_lt_succ free
  have other (y : Grant) (mem : y ∈ (s.grants.get l).outstanding) :
      (s.grants.get l).outstanding = [y] := by
    obtain ⟨a, e⟩ := List.length_eq_one_iff.mp (Nat.le_antisymm one (List.length_pos_of_mem mem))
    rw [e] at mem ⊢
    rw [List.mem_singleton.mp mem]
  refine ⟨?_, ?_, ?_, ?_, ok.okRun⟩
  · simp only [GrantLane.granted, List.length_append, List.length_singleton]; omega
  · refine List.pairwise_append.mpr ⟨ok.idsDiffer, List.pairwise_singleton _ _, fun y mem z hz => ?_⟩
    rw [List.mem_singleton.mp hz, id]
    exact GrantLane.takeId_fresh (other y mem)
  · refine List.pairwise_append.mpr ⟨ok.apart, List.pairwise_singleton _ _, fun y mem z hz => ?_⟩
    rw [List.mem_singleton.mp hz]
    obtain ⟨t, small, e⟩ := start
    refine Window.intersects_eq_false (ok.caps y mem) cap ?_
    simp only [Grant.window, e]
    exact State.earliestStart_gap (by rw [other y mem]; rfl) small
  · intro y mem
    rcases List.mem_append.mp mem with mem | mem
    · exact ok.caps y mem
    · rw [List.mem_singleton.mp mem]; exact cap

/-- A query of at most 8,000 µs, evaluated, keeps the grants apart. -/
theorem State.evaluate_grantsOk {s : State} (tracker : s.tracker.Ok) (ok : s.GrantsOk) (l : Lane) {q : Query}
    (airtime : q.airtime ≤ 8000) : (s.evaluate l q).GrantsOk := by
  have answered (m : OutMsg) : (s.answerQuery l m).GrantsOk := fun k => by rw [answerQuery_grants]; exact ok k
  unfold State.evaluate
  split
  case h_6 =>
    split
    case isTrue => exact answered _
    case isFalse full =>
      split
      · unfold State.grantQuery
        dsimp only
        split
        · rename_i o offered
          obtain ⟨start, cap⟩ := State.offer_bounds tracker offered
          intro k
          rw [issue_grants, PerLane.get_set]
          split
          · exact (ok l).granted (Nat.lt_of_not_le full) rfl start (cap.trans airtime)
          · exact ok k
        · exact answered _
      · exact ok
  all_goals exact answered _

theorem parseQuery_airtime {body : List Byte} {q : Query} (h : parseQuery body = some q) : q.airtime ≤ 8000 := by
  unfold parseQuery at h
  split at h
  · simp only [Option.ite_none_right_eq_some, Option.some.injEq] at h
    obtain ⟨bounds, rfl⟩ := h
    exact bounds.2
  · cases h

theorem State.takeQuery_grantsOk {s : State} (tracker : s.tracker.Ok) (ok : s.GrantsOk) (l : Lane) :
    (s.takeQuery l).GrantsOk := by
  unfold State.takeQuery
  dsimp only
  split
  · exact ok
  · split
    · rename_i q parsed
      exact State.evaluate_grantsOk (s := { s.emptyHolder l with arbiter := l }) tracker ok l (parseQuery_airtime parsed)
    · intro k
      rw [sendOut_grants]
      exact ok k

/-! ## The invariant -/

theorem grantsOk_dependsOn : DependsOn [.grants] State.GrantsOk := by
  intro s t same ok l
  have grants : t.grants = s.grants := same .grants (by simp)
  exact grants ▸ ok l

theorem GrantLane.reset_ok (n : Nat) : (GrantLane.reset n).Ok :=
  ⟨Nat.zero_le 2, .nil, .nil, fun _ i => (List.not_mem_nil i).elim, Nat.zero_le 254⟩

theorem State.clampGuard_grantsOk {s : State} (ok : s.GrantsOk) (l : Lane) : (s.clampGuard l).GrantsOk := by
  intro m
  rw [clampGuard_grants, PerLane.get_set]
  split
  · exact ⟨(ok l).atMostTwo, (ok l).idsDiffer, (ok l).apart, (ok l).caps, (ok l).okRun⟩
  · exact ok m

theorem setParameterOwner_grantsOk (n q : Byte) (v : BitVec 32) {s : State} (ok : s.GrantsOk) :
    (setParameterOwner n q v s).1.GrantsOk := by
  unfold setParameterOwner
  split
  · exact ok
  · split
    · exact ok
    · rename_i p set
      have stored : ({ s with params := p } : State).GrantsOk := ok
      dsimp only
      split
      · exact State.clampGuard_grantsOk (State.clampGuard_grantsOk (State.clampGuard_grantsOk stored _) _) _
      · exact stored

theorem exec_grantsOk {c : Instr} {s t : State} (run : exec c s = .next t) (params : s.params.Ok) (tracker : s.tracker.Ok)
    (ok : s.GrantsOk) : t.GrantsOk := by
  cases other : remakesGrants c with
  | false => exact fun l => ((exec_moves run params other).lanes l).ok params (ok l)
  | true =>
    cases c with
    | powerOnReset =>
      cases run
      exact fun l => by cases l <;> exact GrantLane.reset_ok 300
    | softResetBlock b =>
      cases (beq_iff_eq.mp other : b = .gre)
      refine event_keeps (show execSoftResetBlock .gre s = _ from run) ok fun _ => ?_
      unfold State.takeReset
      split
      · have values : (({ (s.dropWork .gre).blockValues .gre with resets := s.resets.erase .gre } : State)).GrantsOk :=
          fun l => by cases l <;> exact GrantLane.reset_ok _
        unfold State.finishSoftReset
        split
        · exact grantsOk_dependsOn _ _ (by simp [State.sameAt]) values
        · exact values
      · exact ok
    | query =>
      refine event_keeps (show execQuery s = _ from run) ok fun _ => ?_
      split
      · exact State.takeQuery_grantsOk tracker ok _
      · exact ok
    | setParameter n q v =>
      exact grantsOk_dependsOn.transact (by decide) (show execSetParameter n q v s = _ from run) ok
        fun u hu => setParameterOwner_grantsOk n q v hu
    | _ => cases other

/-- Settles O8: every command keeps the grants of each lane at most two and apart; what a step moves besides is not theirs. -/
theorem stepKeepsGrantsApart : Obligations.StepKeepsGrantsApart := by
  unfold Obligations.StepKeepsGrantsApart
  intro s t params tracker ok run
  obtain moved | ⟨c, u, moved, run⟩ := step_cases run
  · exact grantsOk_dependsOn.keep moved (by decide) ok
  · have same : u.params = s.params := moved .params (by decide)
    have same' : u.tracker = s.tracker := moved .tracker (by decide)
    exact exec_grantsOk run (same ▸ params) (same' ▸ tracker) (grantsOk_dependsOn.keep moved (by decide) ok)

end Sys2Proof.Machine

/-! The addresses of the ADMITTED stations (R82, R84 to R91). ADMIT and AMEND give a record only addresses that no other
record uses; every other command keeps the addresses of the records it changes, or removes a record. -/

namespace Sys2Proof.Machine

open Sys2Proof

/-! ## The records of the table -/

theorem State.setStation_get (s : State) (j k : StationSlot) (r : Option Station) :
    (s.setStation k r).stations[j] = if j = k then r else s.stations[j] := by
  rw [setStation_stations, Fin.getElem_fin, Vector.getElem_set]
  simp only [Fin.ext_iff, eq_comm (a := k.val), Fin.getElem_fin]

theorem Station.uses_iff (r : Station) (a : Address) : r.uses a = true ↔ r.primary = a ∨ r.aliasAddr = some a := by
  simp [Station.uses]

theorem stationsOk_dependsOn : DependsOn [.stations] State.StationsOk := by
  intro s t same ok
  have stations : t.stations = s.stations := same .stations (by simp)
  exact ⟨stations ▸ ok.record, stations ▸ ok.apart⟩

variable {s : State}

/-- A record whose addresses no other record uses takes a slot. -/
theorem State.StationsOk.setStation (ok : s.StationsOk) (k : StationSlot) {r : Station} (record : r.Ok)
    (fresh : ∀ a, r.uses a = true → ∀ (j : StationSlot) (q : Station), j ≠ k → s.stations[j] = some q → q.uses a = false) :
    (s.setStation k (some r)).StationsOk := by
  refine ⟨fun j q hq => ?_, fun i j q q' a hq hq' uses uses' => ?_⟩
  · rw [s.setStation_get] at hq
    split at hq
    · cases hq; exact record
    · exact ok.record j q hq
  · rw [s.setStation_get] at hq hq'
    split at hq <;> split at hq'
    case isTrue.isTrue ik jk => exact ik.trans jk.symm
    case isTrue.isFalse ik jk => cases hq; rw [fresh a uses j q' jk hq'] at uses'; cases uses'
    case isFalse.isTrue ik jk => cases hq'; rw [fresh a uses' i q ik hq] at uses; cases uses
    case isFalse.isFalse => exact ok.apart i j q q' a hq hq' uses uses'

/-- A record that keeps its addresses stays apart from the others. -/
theorem State.StationsOk.update (ok : s.StationsOk) {k : StationSlot} {r r' : Station} (held : s.stations[k] = some r)
    (record : r'.Ok) (same : ∀ a, r'.uses a = r.uses a) : (s.setStation k (some r')).StationsOk :=
  ok.setStation k record fun a uses j q other hq => by
    by_contra used
    exact other (ok.apart j k q r a hq held (by simpa using used) (same a ▸ uses))

theorem State.StationsOk.remove (ok : s.StationsOk) (k : StationSlot) : (s.setStation k none).StationsOk := by
  refine ⟨fun j q hq => ?_, fun i j q q' a hq hq' => ?_⟩
  · rw [s.setStation_get] at hq
    split at hq
    · cases hq
    · exact ok.record j q hq
  · rw [s.setStation_get] at hq hq'
    split at hq
    · cases hq
    · split at hq'
      · cases hq'
      · exact ok.apart i j q q' a hq hq'

/-! ## Counter claims and steering results (R88 to R91) -/

theorem Station.Ok.creditOk {r : Station} (ok : r.Ok) (n : Nat) : (r.creditOk n).Ok := by
  unfold Station.creditOk
  dsimp only
  split
  · exact { ok with lossStreak := Nat.zero_le _, okRun := Nat.min_le_left _ _, advice := nofun }
  · exact { ok with lossStreak := Nat.zero_le _, okRun := Nat.min_le_left _ _ }

theorem Station.uses_creditOk (r : Station) (n : Nat) (a : Address) : (r.creditOk n).uses a = r.uses a := by
  unfold Station.creditOk
  dsimp only
  split <;> rfl

theorem Station.Ok.chargeLoss {r : Station} (ok : r.Ok) (n : Nat) : (r.chargeLoss n).Ok := by
  refine { ok with lossStreak := Nat.min_le_left _ _, okRun := Nat.zero_le _, advice := fun advised => ?_ }
  have strained := ok.advice advised
  unfold Station.chargeLoss
  dsimp only
  split
  · rfl
  · exact strained

theorem State.unadvise_stationsOk (ok : s.StationsOk) (k : StationSlot) : (s.unadvise k).StationsOk :=
  stationsOk_dependsOn.keep (w := [.advised])
    (.ite (.refl _ s) (by intro p out; cases p <;> first | exact (out (by decide)).elim | rfl)) (by decide) ok

theorem State.counterClaim_stationsOk (ok : s.StationsOk) (a : Address) (x : ClaimResult) :
    (s.counterClaim a x).StationsOk := by
  unfold State.counterClaim
  split
  · exact ok
  · split
    · exact ok
    · rename_i k _ _ r held
      have record := ok.record k r held
      cases x with
      | ok =>
        have credited := ok.update held (record.creditOk s.params.recoverRun) (r.uses_creditOk _)
        dsimp only
        split
        · exact credited
        · exact State.unadvise_stationsOk credited k
      | lost =>
        have charged := ok.update held (record.chargeLoss s.params.strainLosses) fun _ => rfl
        dsimp only
        split
        · exact charged
        · exact stationsOk_dependsOn.keep (hand_changesOnly _ _ _) (by decide) charged

theorem State.applySteering_stationsOk (ok : s.StationsOk) (x : SteeringResult) : (s.applySteering x).StationsOk := by
  unfold State.applySteering
  split
  · exact ok
  · rename_i r held
    split
    case isTrue matching =>
      split
      · rename_i l _
        have record : ({ r with advice := some l } : Station).Ok :=
          { ok.record x.slot r held with advice := fun _ => matching.2.1 }
        have advised := ok.update held record fun _ => rfl
        exact stationsOk_dependsOn.keep (w := [.advised])
          (.ite (.refl _ _) (by intro p out; cases p <;> first | exact (out (by decide)).elim | rfl)) (by decide) advised
      · exact ok
    case isFalse => exact ok

/-! ## ADMIT, AMEND and RELEASE (R84 to R86) -/

theorem State.inUse_eq_false {a : Address} (h : s.inUse a = false) (k : StationSlot) {q : Station}
    (held : s.stations[k] = some q) : q.uses a = false := by
  have unused := List.any_eq_false.mp h k (List.mem_finRange k)
  rw [held] at unused
  simpa using unused

theorem State.inUseElsewhere_eq_false {a : Address} {k : StationSlot} (h : s.inUseElsewhere k a = false)
    {j : StationSlot} (other : j ≠ k) {q : Station} (held : s.stations[j] = some q) : q.uses a = false := by
  have unused := List.any_eq_false.mp h j (List.mem_finRange j)
  rw [held] at unused
  simpa [other] using unused

theorem floorOk_iff (x : Half) : floorOk x = true ↔ 50 ≤ x.toNat ∧ x.toNat ≤ 2000 := by simp [floorOk]

/-- A floor given and checked, or the floor held, lies in its range. -/
theorem floor_bounds {g : Option Half} (checked : g.all floorOk = true) {n : Nat} (held : 50 ≤ n ∧ n ≤ 2000) :
    50 ≤ (g.map (·.toNat)).getD n ∧ (g.map (·.toNat)).getD n ≤ 2000 := by
  cases g with
  | none => exact held
  | some x => exact (floorOk_iff x).mp checked

theorem admitted?_ok {a : AdmitArgs} {r : Station} (h : admitted? a = some r) (differs : a.aliasAddr ≠ some a.primary) :
    r.Ok ∧ r.primary = a.primary ∧ r.aliasAddr = a.aliasAddr := by
  unfold admitted? at h
  split at h
  · simp only [Option.ite_none_right_eq_some, Bool.and_eq_true, Bool.not_eq_true', Option.some.injEq] at h
    obtain ⟨⟨⟨individual, aliasIndividual⟩, floor⟩, rfl⟩ := h
    refine ⟨⟨individual, fun b hb => ?_, differs, floor_bounds floor (by decide), Nat.zero_le _, Nat.zero_le _, nofun⟩, rfl, rfl⟩
    rw [show a.aliasAddr = some b from hb] at aliasIndividual
    simpa using aliasIndividual
  · cases h

theorem admitOwner_stationsOk (a : AdmitArgs) (ok : s.StationsOk) : (admitOwner a s).1.StationsOk := by
  unfold admitOwner
  split
  · exact ok
  · rename_i r admitted
    split
    · exact ok
    · rename_i fresh
      simp only [Bool.or_eq_true, decide_eq_true_eq, not_or, Bool.not_eq_true] at fresh
      obtain ⟨⟨differs, primary⟩, second⟩ := fresh
      obtain ⟨record, e, e'⟩ := admitted?_ok admitted differs
      split
      · exact ok
      · refine ok.setStation _ record fun b uses j q _ held => ?_
        rcases (r.uses_iff b).mp uses with h | h
        · exact State.inUse_eq_false (h ▸ e ▸ primary) j held
        · rw [← e', h] at second
          exact State.inUse_eq_false (by simpa using second) j held

theorem amendedStation?_ok {r r' : Station} {a : StationAmendArgs} (h : amendedStation? r a = some r') (ok : r.Ok)
    (differs : ∀ b, a.aliasAddr = .value b → b ≠ r.primary) :
    r'.Ok ∧ r'.primary = r.primary ∧ givenAlias r.aliasAddr a.aliasAddr = some r'.aliasAddr := by
  unfold amendedStation? at h
  split at h
  · rename_i second bands width home given _ _ _
    simp only [Option.ite_none_right_eq_some, Option.some.injEq] at h
    obtain ⟨floor, rfl⟩ := h
    have aliasOk : (∀ b, second = some b → b.isGroup = false) ∧ second ≠ some r.primary := by
      cases g : a.aliasAddr with
      | omitted => rw [g] at given; cases given; exact ⟨ok.aliasIndividual, ok.aliasDiffers⟩
      | value b =>
        rw [g] at given
        simp only [givenAlias, Option.ite_none_left_eq_some, Option.some.injEq] at given
        obtain ⟨individual, rfl⟩ := given
        exact ⟨fun c hc => by cases hc; simpa using individual, fun same => differs b g (Option.some.inj same)⟩
      | remove => rw [g] at given; cases given; exact ⟨nofun, nofun⟩
    refine ⟨{ ok with aliasIndividual := aliasOk.1, aliasDiffers := aliasOk.2, floor := floor_bounds floor ok.floor
                      advice := fun advised => ?_ }, rfl, given⟩
    dsimp only at advised
    split at advised
    · exact ok.advice advised
    · cases advised
  · cases h

theorem stationAmendOwner_stationsOk (a : StationAmendArgs) (ok : s.StationsOk) :
    (stationAmendOwner a s).1.StationsOk := by
  unfold stationAmendOwner withStation
  split
  · exact ok
  · exact ok
  · rename_i k _
    split
    · exact ok
    · rename_i r held
      dsimp only
      split
      · exact ok
      · rename_i r' amended
        split
        · exact ok
        · rename_i free
          have free : aliasTaken s k r a.aliasAddr = false := by simpa using free
          have differs (b : Address) (g : a.aliasAddr = .value b) : b ≠ r.primary ∧ s.inUseElsewhere k b = false := by
            simpa [aliasTaken, g] using free
          obtain ⟨record, primary, given⟩ := amendedStation?_ok amended (ok.record k r held) fun b g => (differs b g).1
          have stored : (s.setStation k (some r')).StationsOk := by
            refine ok.setStation k record fun b uses j q other hq => ?_
            have elsewhere (hb : r.uses b = true) : q.uses b = false := by
              by_contra used
              exact other (ok.apart j k q r b hq held (by simpa using used) hb)
            rcases (r'.uses_iff b).mp uses with h | h
            · exact elsewhere ((r.uses_iff b).mpr (.inl (primary ▸ h)))
            · cases g : a.aliasAddr with
              | omitted =>
                rw [g, givenAlias, Option.some.injEq] at given
                exact elsewhere ((r.uses_iff b).mpr (.inr (given.trans h)))
              | value c =>
                rw [g, givenAlias, Option.ite_none_left_eq_some, Option.some.injEq] at given
                cases given.2.trans h
                exact State.inUseElsewhere_eq_false (differs b g).2 other hq
              | remove =>
                rw [g, givenAlias, Option.some.injEq] at given
                cases given.trans h
          dsimp only
          split
          · exact stored
          · exact State.unadvise_stationsOk stored k

theorem releaseOwner_stationsOk (slot : Byte) (ok : s.StationsOk) : (releaseOwner slot s).1.StationsOk := by
  unfold releaseOwner withStation
  split
  · exact ok
  · exact ok
  · split
    · exact ok
    · exact State.unadvise_stationsOk (ok.remove _) _

/-! ## The invariant -/

theorem stationsOk_of_empty (h : s.stations = Vector.replicate 63 none) : s.StationsOk := by
  have free (k : StationSlot) : s.stations[k] = none := by simp [h]
  exact ⟨fun k r hr => by simp [free k] at hr, fun j k q r a hq => by simp [free j] at hq⟩

theorem exec_stationsOk {c : Instr} {s t : State} (touched : ∃ p ∈ [Part.stations], p ∈ footprint c)
    (run : exec c s = .next t) (ok : s.StationsOk) : t.StationsOk := by
  obtain ⟨p, i, touched⟩ := touched
  cases List.mem_singleton.mp i
  have taken (x : Handed) : (s.taking x).StationsOk := stationsOk_dependsOn.keep (s.taking_changesOnly x) (by decide) ok
  cases c with
  | powerOnReset => cases run; exact stationsOk_of_empty rfl
  | softResetBlock b =>
    cases b with
    | stb =>
      refine event_keeps (show execSoftResetBlock .stb s = _ from run) ok fun _ => ?_
      unfold State.takeReset
      split
      · unfold State.finishSoftReset
        split <;> exact stationsOk_of_empty rfl
      · exact ok
    | _ => simp [footprint, resetParts] at touched
  | counterClaim a x =>
    exact event_keeps (show execCounterClaim a x s = _ from run) ok fun _ =>
      State.counterClaim_stationsOk (taken _) a x
  | steeringResult x =>
    exact event_keeps (show execSteeringResult x s = _ from run) ok fun _ => State.applySteering_stationsOk (taken _) x
  | admitStation a =>
    exact stationsOk_dependsOn.transact (by decide) (show execAdmitStation a s = _ from run) ok
      fun _ => admitOwner_stationsOk a
  | stationAmend a =>
    exact stationsOk_dependsOn.transact (by decide) (show execStationAmend a s = _ from run) ok
      fun _ => stationAmendOwner_stationsOk a
  | release slot =>
    exact stationsOk_dependsOn.transact (by decide) (show execRelease slot s = _ from run) ok
      fun _ => releaseOwner_stationsOk slot
  | _ => simp [footprint, portParts, State.tickParts] at touched

/-- Settles O6: the seven commands that change the Station Table keep its addresses individual and apart. -/
theorem stepKeepsStationAddressesApart : Obligations.StepKeepsStationAddressesApart := by
  unfold Obligations.StepKeepsStationAddressesApart
  exact fun s t ok run => stationsOk_dependsOn.step (by decide) (fun _ _ _ => exec_stationsOk) run ok

end Sys2Proof.Machine

/-! The stack, plan state, switch record and timers of a lane between two states (R94 to R119). Everything that an operation
of the Plan Stacks does to a lane is one of a few moves, each with the condition under which it is made; a reset and a DISABLE
apart, every command only makes such moves. -/

namespace Sys2Proof.Machine

open Sys2Proof

/-! ## What an operation leaves of the plans -/

namespace State

variable (s : State)

@[simp] theorem sendOut_plans (src : Block) (l : Lane) (m : OutMsg) : (s.sendOut src l m).plans = s.plans :=
  s.sendOut_changesOnly src l m .plans (by decide)

@[simp] theorem hand_plans (src : Block) (x : Handed) : (s.hand src x).plans = s.plans :=
  s.hand_changesOnly src x .plans (by decide)

@[simp] theorem request_plans (src : Block) (f : Flag) : (s.request src f).plans = s.plans := s.hand_plans src _

theorem sendOrder_plans (l : Lane) (w : SwitchRecord) (state : PlanState) (n : Nat) :
    (s.sendOrder l w state n).plans = s.plans.set l { s.plans.get l with
      state := state, attempts := n, timeout := some (after s.airTime (s.params.switchTimeout * 1000)) } := by
  simp [sendOrder]

theorem firstOrder_plans {l : Lane} {w : SwitchRecord} (h : (s.plans.get l).switch = some w) :
    (s.firstOrder l).plans = s.plans.set l { s.plans.get l with
      state := .switching, attempts := 0, timeout := some (after s.airTime (s.params.switchTimeout * 1000)) } := by
  unfold firstOrder
  rw [h]
  exact s.sendOrder_plans l w .switching 0

theorem restoreTop_plans {l : Lane} {e : PlanEntry} (h : (s.plans.get l).stack.getLast? = some e) :
    (s.restoreTop l).plans = s.plans.set l { s.plans.get l with
      switch := some ⟨.restore, (s.plans.get l).stack.length, e.plan⟩, settle := none, state := .switching, attempts := 0
      timeout := some (after s.airTime (s.params.switchTimeout * 1000)) } := by
  have top : (s.plans.get l).top = some e := h
  unfold restoreTop
  dsimp only
  rw [top]
  refine (firstOrder_plans _ (w := ⟨.restore, (s.plans.get l).stack.length, e.plan⟩) (by simp)).trans ?_
  simp

theorem restoreTop_of_empty {l : Lane} (h : (s.plans.get l).stack = []) : s.restoreTop l = s := by
  have top : (s.plans.get l).top = none := List.getLast?_eq_none_iff.mpr h
  unfold restoreTop
  dsimp only
  rw [top]

end State

/-! ## The moves of one lane -/

/-- Two stacks that differ in their tags at most. -/
def SameButTags (xs ys : List PlanEntry) : Prop :=
  xs.map (fun e => (e.plan, e.tolerance)) = ys.map fun e => (e.plan, e.tolerance)

/-- The record names an entry of the stack as its target, in the place its kind gives (R97). -/
def SwitchRecord.Fits (w : SwitchRecord) (stack : List PlanEntry) : Prop :=
  w.targets stack.length ∧ (stack[w.position - 1]?).map (·.plan) = some w.target

/-- What the operations of the Plan Stacks do to a lane, DISABLE and the reset apart. -/
inductive PlanLane.Moves (p : Params) : PlanLane → PlanLane → Prop where
  | refl (x : PlanLane) : Moves p x x
  | trans {x y z : PlanLane} : Moves p x y → Moves p y z → Moves p x z
  | retagged (x : PlanLane) {stack : List PlanEntry} : SameButTags stack x.stack → Moves p x { x with stack := stack }
  | underflowed (x : PlanLane) : x.state = .settled → x.settle = none → Moves p x { x with state := .halted }
  | begun (x : PlanLane) {w : SwitchRecord} : x.state = .settled ∨ x.state = .halted → w.Fits x.stack →
      Moves p x { x with state := .draining, switch := some w, settle := none }
  | ordered (x : PlanLane) (d : AirTime) : x.state = .draining →
      Moves p x { x with state := .switching, attempts := 0, timeout := some d }
  | resent (x : PlanLane) (d : AirTime) : x.state.inFlight = true → x.attempts < p.switchRetries →
      Moves p x { x with state := .unsynced, attempts := x.attempts + 1, timeout := some d }
  | gaveUp (x : PlanLane) : x.state.inFlight = true → Moves p x { x with state := .halted, switch := none, timeout := none }
  | completed (x : PlanLane) (d : AirTime) {w : SwitchRecord} : x.state.inFlight = true → x.switch = some w →
      Moves p x { x with
        stack := tagAt (x.stack.take w.position) w.position .valid, state := .settled, switch := none, attempts := 0
        settle := some d, timeout := none }
  | failed (x : PlanLane) {w : SwitchRecord} : x.state.inFlight = true → x.switch = some w →
      Moves p x { x with
        stack := State.failedStack x.stack w, switch := none, attempts := 0, timeout := none
        state := if w.kind = .restore then .halted else .settled }
  | timerStopped (x : PlanLane) : Moves p x { x with settle := none }
  | restored (x : PlanLane) (d : AirTime) {e : PlanEntry} : x.stack.getLast? = some e →
      Moves p x { x with
        switch := some ⟨.restore, x.stack.length, e.plan⟩, settle := none, state := .switching, attempts := 0
        timeout := some d }
  | cleared (x : PlanLane) : x.stack = [] → x.state ≠ .disabled →
      Moves p x { x with switch := none, timeout := none, settle := none, attempts := 0 }
  | continued (x : PlanLane) : x.state = .halted → Moves p x { x with state := .settled, attempts := 0 }
  | pushed (x : PlanLane) {plan : PlanSpan} {tolerance : Nat} {band : Band} : x.state.between = false → plan.valid = true →
      tolerance ≤ 64 → plan.band = band → (band = x.band ∨ x.stack = []) →
      Moves p x { x with band := band, stack := Machine.pushed x.stack ⟨plan, tolerance, .valid⟩ }
  | popped (x : PlanLane) : x.state = .disabled → Moves p x { x with stack := x.stack.dropLast }

/-- The moves of every lane between two states with the same parameters. -/
structure PlansMove (s t : State) : Prop where
  params : t.params = s.params
  lanes : ∀ l : Lane, PlanLane.Moves s.params (s.plans.get l) (t.plans.get l)

namespace PlansMove

variable {s t u : State}

theorem refl (s : State) : PlansMove s s := ⟨rfl, fun _ => .refl _⟩

theorem trans (first : PlansMove s t) (second : PlansMove t u) : PlansMove s u :=
  ⟨second.params.trans first.params, fun l => (first.lanes l).trans (first.params ▸ second.lanes l)⟩

theorem of_same {w : List Part} (h : ChangesOnly w s t) (params : .params ∉ w) (plans : .plans ∉ w) : PlansMove s t := by
  have same : t.plans = s.plans := h .plans plans
  exact ⟨h .params params, fun l => same ▸ .refl _⟩

/-- A move of one lane, whatever else but parameters and plans it comes with. -/
theorem of_set {l : Lane} {x : PlanLane} (params : t.params = s.params) (set : t.plans = s.plans.set l x)
    (moves : PlanLane.Moves s.params (s.plans.get l) x) : PlansMove s t := by
  refine ⟨params, fun m => ?_⟩
  rw [set, PerLane.get_set]
  split
  case isTrue same => exact same ▸ moves
  case isFalse => exact .refl _

theorem ite {c : Prop} [Decidable c] (yes : c → PlansMove s t) (no : ¬c → PlansMove s u) :
    PlansMove s (if c then t else u) := by
  split
  · exact yes ‹_›
  · exact no ‹_›

end PlansMove

/-! ## Tags -/

namespace SameButTags

variable {xs ys zs : List PlanEntry}

theorem refl (xs : List PlanEntry) : SameButTags xs xs := rfl

theorem length (h : SameButTags xs ys) : xs.length = ys.length := by simpa using congrArg List.length h

theorem append (h : SameButTags xs ys) {xs' ys' : List PlanEntry} (h' : SameButTags xs' ys') :
    SameButTags (xs ++ xs') (ys ++ ys') := by
  unfold SameButTags at *
  rw [List.map_append, List.map_append, h, h']

theorem reverse (h : SameButTags xs ys) : SameButTags xs.reverse ys.reverse := by
  unfold SameButTags at *
  rw [List.map_reverse, List.map_reverse, h]

/-- The plan at a place does not depend on tags. -/
theorem plan (h : SameButTags xs ys) (i : Nat) : (xs[i]?).map (·.plan) = (ys[i]?).map (·.plan) := by
  have at_i := congrArg (fun l => (l[i]?).map Prod.fst) h
  simpa [Option.map_map, Function.comp_def] using at_i

/-- What holds of the plan and tolerance of every entry does not depend on tags. -/
theorem forall_iff (h : SameButTags xs ys) (q : PlanSpan → Nat → Prop) :
    (∀ e ∈ xs, q e.plan e.tolerance) ↔ ∀ e ∈ ys, q e.plan e.tolerance := by
  have split (l : List PlanEntry) : (∀ e ∈ l, q e.plan e.tolerance) ↔
      ∀ x ∈ l.map fun e => (e.plan, e.tolerance), q x.1 x.2 := by simp
  rw [split, split, h]

end SameButTags

theorem tagAt_sameButTags (stack : List PlanEntry) (position : Nat) (t : Tag) :
    SameButTags (tagAt stack position t) stack := by
  refine List.ext_getElem? fun i => ?_
  rw [tagAt, List.getElem?_map, List.getElem?_map, List.getElem?_modify, Option.map_eq_map, Option.map_map]
  congr 1
  funext e
  simp only [Function.comp]
  split <;> rfl

/-- A top entry with another tag. -/
theorem retop_sameButTags {stack : List PlanEntry} {top : PlanEntry} (h : stack.getLast? = some top) (t : Tag) :
    SameButTags (stack.dropLast ++ [{ top with tag := t }]) stack := by
  obtain ⟨below, rfl⟩ := List.getLast?_eq_some_iff.mp h
  rw [List.dropLast_concat]
  exact (SameButTags.refl below).append rfl

/-- The fallback search changes tags only, and finds a place among the entries searched. -/
theorem searchDown_spec (q : PlanSpan → Option Nat) (xs : List PlanEntry) :
    SameButTags (searchDown q xs).1 xs ∧ ∀ n, (searchDown q xs).2 = some n → 1 ≤ n ∧ n ≤ xs.length := by
  induction xs with
  | nil => exact ⟨.refl _, nofun⟩
  | cons e rest ih =>
    obtain ⟨tags, place⟩ := ih
    have further (n : Nat) (h : (searchDown q rest).2 = some n) : 1 ≤ n ∧ n ≤ (e :: rest).length :=
      ⟨(place n h).1, (place n h).2.trans (Nat.le_succ _)⟩
    have retagged (e' : PlanEntry) (h : (e'.plan, e'.tolerance) = (e.plan, e.tolerance)) :
        SameButTags (e' :: (searchDown q rest).1) (e :: rest) := by
      unfold SameButTags at *
      rw [List.map_cons, List.map_cons, h, tags]
    unfold searchDown
    split
    · exact ⟨retagged e rfl, further⟩
    · split
      · exact ⟨.refl _, fun n h => by cases h; exact ⟨Nat.succ_le_succ (Nat.zero_le _), le_refl _⟩⟩
      · exact ⟨retagged _ rfl, further⟩

/-! ## The moves of the operations -/

namespace State

variable (s : State)

theorem setPlan_moves {l : Lane} {x : PlanLane} (h : PlanLane.Moves s.params (s.plans.get l) x) :
    PlansMove s (s.setPlan l x) := .of_set rfl rfl h

theorem request_moves (src : Block) (f : Flag) : PlansMove s (s.request src f) :=
  .of_same (s.hand_changesOnly src _) (by decide) (by decide)

theorem sendOut_plansMove (src : Block) (l : Lane) (m : OutMsg) : PlansMove s (s.sendOut src l m) :=
  .of_same (s.sendOut_changesOnly src l m) (by decide) (by decide)

theorem firstOrder_moves {l : Lane} (h : (s.plans.get l).state = .draining) : PlansMove s (s.firstOrder l) := by
  cases switch : (s.plans.get l).switch with
  | none => unfold firstOrder; rw [switch]; exact .refl s
  | some w =>
    exact .of_set (s.firstOrder_changesOnly l .params (by decide)) (s.firstOrder_plans switch) (.ordered _ _ h)

theorem beginSwitch_moves {l : Lane} {w : SwitchRecord}
    (state : (s.plans.get l).state = .settled ∨ (s.plans.get l).state = .halted) (fits : w.Fits (s.plans.get l).stack) :
    PlansMove s (s.beginSwitch l w) := by
  have begun := s.setPlan_moves (.begun _ state fits)
  exact .ite (fun _ => begun.trans (firstOrder_moves _ (by simp))) fun _ => begun

theorem underflow_moves {l : Lane} (state : (s.plans.get l).state = .settled) (settle : (s.plans.get l).settle = none) :
    PlansMove s (s.underflow l) :=
  .ite (fun _ => s.request_moves _ _) fun _ =>
    (s.setPlan_moves (.underflowed _ state settle)).trans (request_moves _ _ _)

theorem searchFallback_moves {l : Lane} {top : PlanEntry} (state : (s.plans.get l).state = .settled)
    (settle : (s.plans.get l).settle = none) (last : (s.plans.get l).stack.getLast? = some top) (t : Tag) :
    PlansMove s (s.searchFallback l { top with tag := t }) := by
  obtain ⟨tags, place⟩ := searchDown_spec (s.planFraction l) (s.plans.get l).stack.dropLast.reverse
  unfold searchFallback
  dsimp only
  have same : SameButTags ((searchDown (s.planFraction l) (s.plans.get l).stack.dropLast.reverse).1.reverse ++
      [{ top with tag := t }]) (s.plans.get l).stack := by
    obtain ⟨below, e⟩ := List.getLast?_eq_some_iff.mp last
    rw [e, List.dropLast_concat] at tags ⊢
    have beneath := tags.reverse
    rw [List.reverse_reverse] at beneath
    exact beneath.append rfl
  generalize (searchDown (s.planFraction l) (s.plans.get l).stack.dropLast.reverse).1.reverse ++
    [{ top with tag := t }] = stack at same ⊢
  have retagged := s.setPlan_moves (l := l) (.retagged _ same)
  split
  · exact retagged.trans (underflow_moves _ (by simpa using state) (by simpa using settle))
  · rename_i position found
    split
    · rename_i e entry
      refine retagged.trans (beginSwitch_moves _ (.inl (by simpa using state)) ?_)
      obtain ⟨low, high⟩ := place position found
      have nonempty : 0 < (s.plans.get l).stack.length := by
        obtain ⟨below, e⟩ := List.getLast?_eq_some_iff.mp last
        simp [e]
      rw [List.length_reverse, List.length_dropLast] at high
      have depth := same.length
      refine ⟨⟨low, ?_⟩, by simp [entry]⟩
      simp only [setPlan_plans, PerLane.get_set_same]
      omega
    · exact retagged

theorem judge_moves {l : Lane} (state : (s.plans.get l).state = .settled) (settle : (s.plans.get l).settle = none) :
    PlansMove s (s.judge l) := by
  unfold judge
  dsimp only
  split
  · exact .refl s
  · rename_i top last
    have last : (s.plans.get l).stack.getLast? = some top := last
    split
    · exact .refl s
    · split
      · exact s.setPlan_moves (.retagged _ (retop_sameButTags last _))
      · split
        · exact s.setPlan_moves (.retagged _ (retop_sameButTags last _))
        · exact s.searchFallback_moves state settle last _

theorem judgeEligible_moves (l : Lane) : PlansMove s (s.judgeEligible l) :=
  .ite (fun ⟨state, settle⟩ => s.judge_moves state settle) fun _ => .refl s

theorem judgeAll_moves : PlansMove s s.judgeAll :=
  (s.judgeEligible_moves .l0).trans (judgeEligible_moves _ .l1) |>.trans (judgeEligible_moves _ .l2)

theorem takeDrain_moves (l : Lane) : PlansMove s (s.takeDrain l) :=
  .ite (fun state => s.firstOrder_moves state) fun _ => .refl s

theorem completeSwitch_moves {l : Lane} {w : SwitchRecord} (flight : (s.plans.get l).state.inFlight = true)
    (switch : (s.plans.get l).switch = some w) : PlansMove s (s.completeSwitch l w) := by
  have moved := s.setPlan_moves (.completed _ (after s.airTime (s.params.settleTime * 1000000)) flight switch)
  exact .ite (fun _ => moved.trans (request_moves _ _ _)) fun _ => moved

theorem failSwitch_moves {l : Lane} {w : SwitchRecord} (flight : (s.plans.get l).state.inFlight = true)
    (switch : (s.plans.get l).switch = some w) : PlansMove s (s.failSwitch l w) := by
  have moved := s.setPlan_moves (.failed _ flight switch)
  unfold failSwitch
  dsimp only
  split
  case isTrue restore =>
    rw [if_pos restore] at moved
    exact moved.trans (request_moves _ _ _) |>.trans (request_moves _ _ _)
  case isFalse restore =>
    rw [if_neg restore] at moved
    exact moved.trans (request_moves _ _ _) |>.trans (judgeEligible_moves _ l)

/-- A held answer makes no move, or those of its finish on a lane with the order in flight. -/
theorem takeHeldAnswer_moves (l : Lane) (kind : InKind) {finish : State → SwitchRecord → State}
    (finished : ∀ t w, (t.plans.get l).state.inFlight = true → (t.plans.get l).switch = some w → PlansMove t (finish t w)) :
    PlansMove s (s.takeHeldAnswer l kind finish) := by
  have emptied : PlansMove s (s.emptyHolder l) := .of_same (s.emptyHolder_changesOnly l) (by decide) (by decide)
  refine .ite (fun _ => ?_) fun _ => .refl s
  dsimp only
  split
  · exact emptied
  · split
    · unfold takeAnswer
      split
      · rename_i w switch
        exact .ite (fun h => emptied.trans (finished _ w h.1 switch)) fun _ => emptied.trans (sendOut_plansMove _ _ _ _)
      · exact emptied.trans (sendOut_plansMove _ _ _ _)
    · exact emptied.trans (sendOut_plansMove _ _ _ _)

theorem expireSwitch_moves (l : Lane) : PlansMove s (s.expireSwitch l) := by
  refine .ite (fun due => ?_) fun _ => .refl s
  have flight : (s.plans.get l).state.inFlight = true := (Bool.and_eq_true _ _ ▸ due).1
  split
  · exact .refl s
  · rename_i w _
    refine .ite (fun more => ?_) fun _ => ?_
    · exact .of_set (s.sendOrder_changesOnly l w _ _ .params (by decide)) (s.sendOrder_plans l w _ _)
        (.resent _ _ flight more)
    · exact (s.setPlan_moves (.gaveUp _ flight)).trans (request_moves _ _ _) |>.trans (request_moves _ _ _)

theorem expireSettle_moves (l : Lane) : PlansMove s (s.expireSettle l) :=
  .ite (fun _ => (s.setPlan_moves (.timerStopped _)).trans (judgeEligible_moves _ l)) fun _ => .refl s

/-- What the restart of a lane leaves of its plans. -/
theorem restartLane_moves' (l : Lane) : PlansMove s (s.restartLane l) := by
  have closed : PlansMove s ((s.closeLane l).resetGuard l) :=
    .of_same ((s.closeLane_changesOnly l).trans (resetGuard_changesOnly _ l)) (by decide) (by decide)
  refine closed.trans ?_
  unfold restartLane
  generalize (s.closeLane l).resetGuard l = u
  dsimp only
  split
  · exact u.sendOut_plansMove _ _ _
  · rename_i enabled
    have params : ((u.setPlan l { u.plans.get l with
        switch := none, timeout := none, settle := none, attempts := 0 }).sendWelcome l).params = u.params :=
      sendOut_changesOnly _ _ _ _ .params (by decide)
    have plans : ((u.setPlan l { u.plans.get l with
        switch := none, timeout := none, settle := none, attempts := 0 }).sendWelcome l).plans = u.plans.set l
          { u.plans.get l with switch := none, timeout := none, settle := none, attempts := 0 } :=
      sendOut_plans _ _ _ _
    generalize (u.setPlan l { u.plans.get l with
      switch := none, timeout := none, settle := none, attempts := 0 }).sendWelcome l = v at params plans ⊢
    have stack : (v.plans.get l).stack = (u.plans.get l).stack := by rw [plans, PerLane.get_set_same]
    cases last : (u.plans.get l).stack.getLast? with
    | none =>
      have empty := List.getLast?_eq_none_iff.mp last
      rw [v.restoreTop_of_empty (stack.trans empty)]
      exact .of_set params plans (.cleared _ empty enabled)
    | some e =>
      have restored := v.restoreTop_plans (stack ▸ last)
      rw [plans] at restored
      simp only [PerLane.get_set_same, PerLane.set_set] at restored
      exact .of_set ((v.restoreTop_changesOnly l .params (by decide)).trans params) restored (.restored _ _ last)

theorem takePrompt_plansMove (p : Prompt) : PlansMove s (s.takePrompt p) := by
  cases p with
  | holdoverExpiry => exact .of_same s.expireHoldover_changesOnly (by decide) (by decide)
  | grantExpiry l id => exact .of_same (s.expireGrant_changesOnly l id) (by decide) (by decide)
  | switchTimeout l => exact s.expireSwitch_moves l
  | settleTimerExpiry l => exact s.expireSettle_moves l
  | outcome l =>
    exact .ite (fun _ => .of_same (s.takeOutcome_changesOnly l) (by decide) (by decide)) fun _ => .refl s

end State

/-! ## The moves of the host commands -/

theorem Fits_of_getElem? {w : SwitchRecord} {stack : List PlanEntry} {e : PlanEntry} (place : w.targets stack.length)
    (entry : stack[w.position - 1]? = some e) (target : w.target = e.plan) : w.Fits stack :=
  ⟨place, by rw [entry, target]; rfl⟩

theorem settled_or_halted {p : PlanState} (between : p.between = false) (enabled : p ≠ .disabled) :
    p = .settled ∨ p = .halted := by
  cases p with
  | disabled => exact absurd rfl enabled
  | settled => exact .inl rfl
  | halted => exact .inr rfl
  | draining | switching | unsynced => cases between

/-- The entry pushed is on top. -/
theorem pushed_top (stack : List PlanEntry) (e : PlanEntry) : (pushed stack e)[(pushed stack e).length - 1]? = some e := by
  simp [pushed]

/-- A PUSH onto a stack with an entry leaves at least two. -/
theorem two_le_pushed_length {stack : List PlanEntry} (h : stack ≠ []) (e : PlanEntry) : 2 ≤ (pushed stack e).length := by
  have pos := List.length_pos_of_ne_nil h
  unfold pushed
  split
  · simp only [List.length_append, List.length_singleton]; omega
  · rename_i full
    have depth : Config.stackDepth = 6 := rfl
    simp only [List.length_append, List.length_singleton, List.length_drop]
    omega

theorem planOf?_valid {r : RawPlan} {p : PlanSpan} (h : planOf? r = some p) : p.valid = true := by
  unfold planOf? at h
  split at h
  · simp only [Option.ite_none_right_eq_some, Option.some.injEq] at h
    obtain ⟨valid, rfl⟩ := h
    exact valid
  · cases h

theorem pushChecked_moves (l : Lane) {p : PlanSpan} {tolerance : Nat} (valid : p.valid = true) (small : tolerance ≤ 64)
    {s : State} (ok : (s.plans.get l).Ok) : PlansMove s (pushChecked l p tolerance s).1 := by
  unfold pushChecked
  dsimp only
  split
  · exact .refl s
  · rename_i between
    have between : (s.plans.get l).state.between = false := by simpa using between
    split
    · exact .refl s
    · rename_i band
      split
      · exact .refl s
      · have stored := s.setPlan_moves (l := l) (PlanLane.Moves.pushed (s.plans.get l) (plan := p)
          (band := if ((s.plans.get l).state == .disabled && (s.plans.get l).stack.isEmpty) = true then p.band
            else (s.plans.get l).band) between valid small (by grind) (by grind))
        have shed (c : Bool) {t : State} (moved : PlansMove s t) :
            PlansMove s (if c then t.request .pls (.lane .stackShed l) else t) :=
          .ite (fun _ => moved.trans (t.request_moves _ _)) fun _ => moved
        have same (c : Bool) (t : State) : (if c then t.request .pls (.lane .stackShed l) else t).plans = t.plans := by
          split
          · exact t.request_plans _ _
          · rfl
        refine .ite (fun _ => shed _ stored) fun enabled => (shed _ stored).trans (State.beginSwitch_moves _ ?_ ?_)
        · rw [same]
          simpa using settled_or_halted between enabled
        · rw [same]
          simp only [State.setPlan_plans, PerLane.get_set_same]
          exact Fits_of_getElem? ⟨two_le_pushed_length (ok.enabled enabled) _, rfl⟩ (pushed_top _ _) rfl

theorem pushOwner_moves (lane : Byte) (plan : RawPlan) (tolerance : Byte) (s : State) (ok : s.PlansOk) :
    PlansMove s (pushOwner lane plan tolerance s).1 := by
  refine withLane_keeps (P := PlansMove s) (.refl s) fun l => ?_
  split
  · rename_i p valid
    split
    case isTrue small => exact pushChecked_moves l (planOf?_valid valid) small (ok l)
    case isFalse => exact .refl s
  · exact .refl s

theorem popSwitch_moves (l : Lane) {s : State} (state : (s.plans.get l).state = .settled ∨ (s.plans.get l).state = .halted) :
    PlansMove s (popSwitch l s).1 := by
  unfold popSwitch
  dsimp only
  split
  · exact .refl s
  · rename_i deep
    split
    · rename_i e entry
      refine s.beginSwitch_moves state (Fits_of_getElem? (e := e) ?_ ?_ rfl)
      · exact ⟨by dsimp only; omega, by dsimp only; omega⟩
      · rw [← entry]; congr 1
    · exact .refl s

theorem popOwner_moves (lane : Byte) (s : State) : PlansMove s (popOwner lane s).1 := by
  refine withLane_keeps (P := PlansMove s) (.refl s) fun l => ?_
  dsimp only
  split
  · exact .refl s
  · rename_i between
    split
    · rename_i disabled
      split
      · exact .refl s
      · exact s.setPlan_moves (.popped _ disabled)
    · rename_i enabled
      exact popSwitch_moves l (settled_or_halted (by simpa using between) enabled)

theorem continueOwner_moves (lane : Byte) (s : State) : PlansMove s (continueOwner lane s).1 := by
  refine withLane_keeps (P := PlansMove s) (.refl s) fun l => ?_
  dsimp only
  split
  case isTrue state => exact s.setPlan_moves (.continued _ state)
  case isFalse => exact .refl s

theorem enableOwner_moves (lane : Byte) (s : State) : PlansMove s (enableOwner lane s).1 := by
  refine withLane_keeps (P := PlansMove s) (.refl s) fun l => ?_
  dsimp only
  split
  · exact .refl s
  · split
    · exact .refl s
    · have sent : PlansMove s (s.sendWelcome l) := s.sendOut_plansMove _ _ _
      refine sent.trans ?_
      generalize s.sendWelcome l = u
      cases last : (u.plans.get l).stack.getLast? with
      | none => rw [u.restoreTop_of_empty (List.getLast?_eq_none_iff.mp last)]; exact .refl u
      | some e =>
        exact .of_set (u.restoreTop_changesOnly l .params (by decide)) (u.restoreTop_plans last) (.restored _ _ last)

end Sys2Proof.Machine

/-! The plan stacks of every lane stay as their tables say (R94 to R97, R106, R109, R111): every move keeps it, and so do
the resets and DISABLE. -/

namespace Sys2Proof.Machine

open Sys2Proof

/-! ## The moves of the commands -/

theorem event_plansMove {s t : State} {f : State → State} (h : event s f = .next t) (effect : PlansMove s (f s)) :
    PlansMove s t := event_keeps (P := PlansMove s) h (.refl s) fun _ => effect

/-- An event that takes a piece of handed work first. -/
theorem taking_plansMove {s : State} (x : Handed) {f : State → State} (effect : ∀ u, PlansMove u (f u)) :
    PlansMove s (f (s.taking x)) :=
  PlansMove.trans (.of_same (s.taking_changesOnly x) (by decide) (by decide)) (effect _)

theorem plansOk_dependsOn : DependsOn [.plans] State.PlansOk := by
  intro s t same ok l
  have plans : t.plans = s.plans := same .plans (by simp)
  exact plans ▸ ok l

theorem transact_plansMove {c : Instr} {s t : State} {owner : State → State × Response} (h : transact c s owner = .next t)
    (ok : s.PlansOk) (effect : ∀ u, u.PlansOk → PlansMove u (owner u).1) : PlansMove s t := by
  obtain ⟨n, rfl⟩ | ⟨u, found, rfl⟩ := transact_cases h
  · exact .of_same (s.carryNotReady_changesOnly n) (by decide) (by decide)
  · exact ((PlansMove.of_same found (by decide) (by decide)).trans (effect u (plansOk_dependsOn.keep found (by decide) ok))).trans
      (.of_same (State.answering_changesOnly _ _ _) (by decide) (by decide))

/-- The commands that reset the plans or take a lane out of service. -/
def remakesPlans (c : Instr) : Bool :=
  match c with
  | .powerOnReset => true
  | .softResetBlock b => b == .pls
  | .disable _ => true
  | _ => false

/-- Every other command but SET PARAMETER, which leaves the plans alone, moves the plans. -/
theorem exec_plansMove {c : Instr} {s t : State} (h : exec c s = .next t) (ok : s.PlansOk)
    (touched : .plans ∈ footprint c) (other : remakesPlans c = false) : PlansMove s t := by
  cases c with
  | tick =>
    refine event_plansMove (show execTick s = _ from h) ?_
    refine (State.toNextTick_induction s (P := PlansMove s) ?_ ?_ _ (.refl s))
    · exact fun u v moved k => k.trans (.of_same moved (by decide) (by decide))
    · exact fun u p k => k.trans (u.takePrompt_plansMove p)
  | hello l =>
    have emptied : PlansMove s (s.emptyHolder l) := .of_same (s.emptyHolder_changesOnly l) (by decide) (by decide)
    exact event_plansMove (show execHello l s = _ from h) (.ite (fun _ => .ite (fun _ =>
      emptied.trans (State.restartLane_moves' (s.emptyHolder l) l)) fun _ => emptied) fun _ => .refl s)
  | cadenceStateNotice =>
    exact event_plansMove (show execCadenceStateNotice s = _ from h) (taking_plansMove _ State.judgeAll_moves)
  | changeNotice k =>
    exact event_plansMove (show execChangeNotice k s = _ from h) (taking_plansMove _ State.judgeAll_moves)
  | guardChangeNotice l =>
    exact event_plansMove (show execGuardChangeNotice l s = _ from h) (taking_plansMove _ State.judgeAll_moves)
  | modeNotice => exact event_plansMove (show execModeNotice s = _ from h) (taking_plansMove _ State.judgeAll_moves)
  | drainNotice l =>
    exact event_plansMove (show execDrainNotice l s = _ from h) (taking_plansMove (f := (·.takeDrain l)) _ fun u => u.takeDrain_moves l)
  | switchDone l =>
    exact event_plansMove (show execSwitchDone l s = _ from h)
      (s.takeHeldAnswer_moves l _ fun u _ => u.completeSwitch_moves)
  | switchFailed l =>
    exact event_plansMove (show execSwitchFailed l s = _ from h) (s.takeHeldAnswer_moves l _ fun u _ => u.failSwitch_moves)
  | switchTimeout l => exact event_plansMove (show execSwitchTimeout l s = _ from h) (s.expireSwitch_moves l)
  | settleTimerExpiry l => exact event_plansMove (show execSettleTimerExpiry l s = _ from h) (s.expireSettle_moves l)
  | push lane plan tolerance =>
    exact transact_plansMove (show execPush lane plan tolerance s = _ from h) ok
      fun u => pushOwner_moves lane plan tolerance u
  | pop lane => exact transact_plansMove (show execPop lane s = _ from h) ok fun u _ => popOwner_moves lane u
  | continueLane lane =>
    exact transact_plansMove (show execContinueLane lane s = _ from h) ok fun u _ => continueOwner_moves lane u
  | enable lane => exact transact_plansMove (show execEnable lane s = _ from h) ok fun u _ => enableOwner_moves lane u
  | laneReset lane =>
    refine transact_plansMove (show execLaneReset lane s = _ from h) ok fun u _ =>
      withLane_keeps (P := PlansMove u) (.refl u) fun l => ?_
    have link : PlansMove u (u.restartLink l) := .of_same (u.setLink_changesOnly l _) (by decide) (by decide)
    exact link.trans (State.restartLane_moves' (u.restartLink l) l)
  | softResetBlock b => cases b <;> simp [footprint, resetParts, remakesPlans] at touched other
  | powerOnReset | disable => cases other
  | _ => simp [footprint, portParts] at touched

/-! ## What the moves keep -/

/-- Tags do not matter to a lane's table. -/
theorem PlanLane.Ok.retag {x : PlanLane} (ok : x.Ok) {stack : List PlanEntry} (same : SameButTags stack x.stack) :
    ({ x with stack := stack } : PlanLane).Ok where
  depth := same.length ▸ ok.depth
  enabled enabled empty := by
    have length := same.length
    rw [show stack = [] from empty] at length
    exact ok.enabled enabled (List.length_eq_zero_iff.mp length.symm)
  entries := (same.forall_iff fun p n => p.valid = true ∧ p.band = x.band ∧ n ≤ 64).mpr ok.entries
  switching := ok.switching
  target w hw := ⟨same.length ▸ (ok.target w hw).1, (same.plan _).trans (ok.target w hw).2⟩
  attempts := ok.attempts
  settle := ok.settle
  timeout := ok.timeout

/-- A lane between plans has its switch record, and one that is not has none. -/
theorem PlanLane.Ok.no_switch {x : PlanLane} (ok : x.Ok) (between : x.state.between = false) : x.switch = none := by
  have none := ok.switching
  rw [between] at none
  simpa using none

theorem PlanLane.Ok.no_settle {x : PlanLane} (ok : x.Ok) (state : x.state ≠ .settled) : x.settle = none := by
  by_contra running
  exact state (ok.settle (Option.isSome_iff_ne_none.mpr running))

theorem PlanLane.Ok.no_timeout {x : PlanLane} (ok : x.Ok) (flight : x.state.inFlight = false) : x.timeout = none := by
  have none := ok.timeout
  rw [flight] at none
  simpa using none

theorem PlanState.inFlight_cases {p : PlanState} (flight : p.inFlight = true) : p = .switching ∨ p = .unsynced := by
  cases p with
  | switching => exact .inl rfl
  | unsynced => exact .inr rfl
  | _ => cases flight

/-- An order in flight is of an enabled lane with its record, and its settle timer is stopped. -/
theorem PlanLane.Ok.of_flight {x : PlanLane} (ok : x.Ok) (flight : x.state.inFlight = true) :
    x.stack ≠ [] ∧ x.switch.isSome = true ∧ x.settle = none := by
  rcases PlanState.inFlight_cases flight with state | state
  all_goals exact ⟨ok.enabled (by simp [state]), by rw [ok.switching, state]; rfl, ok.no_settle (by simp [state])⟩

/-- The target of an order in flight lies in the stack. -/
theorem PlanLane.Ok.position_bounds {x : PlanLane} (ok : x.Ok) {w : SwitchRecord} (switch : x.switch = some w) :
    1 ≤ w.position ∧ w.position ≤ x.stack.length := by
  have place := (ok.target w switch).1
  unfold SwitchRecord.targets at place
  split at place <;> omega

/-- A lane with no order in flight and no record: nothing about switches is left to say. -/
theorem PlanLane.Ok.still {x y : PlanLane} (ok : x.Ok) (stack : y.stack = x.stack) (band : y.band = x.band)
    (switch : y.switch = none) (timeout : y.timeout = none) (attempts : y.attempts ≤ 7)
    (state : y.state = .settled ∨ (y.state = .halted ∧ y.settle = none)) (filled : x.stack ≠ []) : y.Ok where
  depth := stack ▸ ok.depth
  enabled _ := stack ▸ filled
  entries := stack ▸ band ▸ ok.entries
  switching := by rcases state with e | ⟨e, -⟩ <;> rw [e, switch] <;> rfl
  target w hw := by rw [switch] at hw; cases hw
  attempts := attempts
  settle running := by
    rcases state with e | ⟨-, none⟩
    · exact e
    · rw [none] at running; cases running
  timeout := by rcases state with e | ⟨e, -⟩ <;> rw [e, timeout] <;> rfl

/-- A lane that is between plans, with its record and what its timers say. -/
theorem PlanLane.Ok.moving {x y : PlanLane} (ok : x.Ok) {w : SwitchRecord} (stack : y.stack = x.stack) (band : y.band = x.band)
    (switch : y.switch = some w) (fits : w.Fits x.stack) (attempts : y.attempts ≤ 7) (settle : y.settle = none)
    (between : y.state.between = true) (timeout : y.timeout.isSome = y.state.inFlight) (filled : x.stack ≠ []) : y.Ok where
  depth := stack ▸ ok.depth
  enabled _ := stack ▸ filled
  entries := stack ▸ band ▸ ok.entries
  switching := by rw [switch, between]; rfl
  target v hv := by rw [switch] at hv; cases hv; exact stack ▸ fits
  attempts := attempts
  settle running := by rw [settle] at running; cases running
  timeout := timeout

theorem pushed_length_le {stack : List PlanEntry} (h : stack.length ≤ 6) (e : PlanEntry) : (pushed stack e).length ≤ 6 := by
  have depth : Config.stackDepth = 6 := rfl
  unfold pushed
  split <;> simp only [List.length_append, List.length_singleton, List.length_drop] <;> omega

theorem mem_pushed {stack : List PlanEntry} {e x : PlanEntry} (h : x ∈ pushed stack e) : x ∈ stack ∨ x = e := by
  unfold pushed at h
  rcases List.mem_append.mp h with mem | mem
  · split at mem
    · exact .inl mem
    · exact .inl (List.mem_of_mem_drop mem)
  · exact .inr (List.mem_singleton.mp mem)

theorem PlanLane.Ok.pushed {x : PlanLane} (ok : x.Ok) {plan : PlanSpan} {tolerance : Nat} {band : Band}
    (between : x.state.between = false) (valid : plan.valid = true) (small : tolerance ≤ 64) (own : plan.band = band)
    (free : band = x.band ∨ x.stack = []) :
    ({ x with band := band, stack := Machine.pushed x.stack ⟨plan, tolerance, .valid⟩ } : PlanLane).Ok where
  depth := pushed_length_le ok.depth _
  enabled _ := by simp [Machine.pushed]
  entries e mem := by
    rcases mem_pushed mem with mem | rfl
    · rcases free with same | empty
      · exact same ▸ ok.entries e mem
      · rw [empty] at mem; cases mem
    · exact ⟨valid, own, small⟩
  switching := ok.switching
  target w hw := by
    have none := ok.no_switch between
    rw [show x.switch = some w from hw] at none
    cases none
  attempts := ok.attempts
  settle := ok.settle
  timeout := ok.timeout

/-- The entries of a sublist are entries of the lane. -/
theorem PlanLane.Ok.sublist {x : PlanLane} (ok : x.Ok) {stack : List PlanEntry} (less : stack.Sublist x.stack)
    (filled : stack ≠ []) (switch : x.switch = none) : ({ x with stack := stack } : PlanLane).Ok where
  depth := less.length_le.trans ok.depth
  enabled _ := filled
  entries e mem := ok.entries e (less.subset mem)
  switching := ok.switching
  target w hw := by rw [show x.switch = some w from hw] at switch; cases switch
  attempts := ok.attempts
  settle := ok.settle
  timeout := ok.timeout

theorem PlanLane.Moves.ok {p : Params} (params : p.Ok) {x y : PlanLane} (moves : PlanLane.Moves p x y) : x.Ok → y.Ok := by
  induction moves with
  | refl => exact id
  | trans _ _ first second => exact second ∘ first
  | retagged x same => exact fun ok => ok.retag same
  | underflowed x state settle =>
    intro ok
    exact ok.still rfl rfl (ok.no_switch (by rw [state]; rfl)) (ok.no_timeout (by rw [state]; rfl)) ok.attempts
      (.inr ⟨rfl, settle⟩) (ok.enabled (by simp [state]))
  | begun x state fits =>
    intro ok
    refine ok.moving rfl rfl rfl fits ok.attempts rfl rfl ?_ ?_
    · rcases state with e | e <;> rw [ok.timeout, e] <;> rfl
    · rcases state with e | e <;> exact ok.enabled (by simp [e])
  | ordered x d state =>
    intro ok
    obtain ⟨w, switch⟩ := Option.isSome_iff_exists.mp (ok.switching.trans (by rw [state]; rfl))
    exact ok.moving rfl rfl switch (ok.target w switch) (Nat.zero_le _) (ok.no_settle (by simp [state])) rfl rfl
      (ok.enabled (by simp [state]))
  | resent x d flight more =>
    intro ok
    obtain ⟨filled, some, settle⟩ := ok.of_flight flight
    obtain ⟨w, switch⟩ := Option.isSome_iff_exists.mp some
    have most := (params.inRange .switchRetries).2
    simp only [Params.numeric, Numeric.range] at most
    exact ok.moving rfl rfl switch (ok.target w switch) (by dsimp only; omega) settle rfl rfl filled
  | gaveUp x flight =>
    intro ok
    obtain ⟨filled, -, settle⟩ := ok.of_flight flight
    exact ok.still rfl rfl rfl rfl ok.attempts (.inr ⟨rfl, settle⟩) filled
  | completed x d flight switch =>
    intro ok
    rename_i w
    obtain ⟨low, high⟩ := ok.position_bounds switch
    have filled := (ok.of_flight flight).1
    have same := tagAt_sameButTags (x.stack.take w.position) w.position .valid
    have still : ({ x with state := .settled, switch := none, attempts := 0, settle := some d, timeout := none } :
        PlanLane).Ok := ok.still rfl rfl rfl rfl (Nat.zero_le _) (.inl rfl) filled
    have some : x.stack.take w.position ≠ [] := by
      rw [ne_eq, List.take_eq_nil_iff]; exact fun h => h.elim (by omega) filled
    exact (still.sublist (x.stack.take_sublist w.position) some rfl).retag same
  | failed x flight switch =>
    intro ok
    rename_i w
    have place := (ok.target w switch).1
    obtain ⟨filled, -, settle⟩ := ok.of_flight flight
    have still : ({ x with
        state := if w.kind = .restore then .halted else .settled, switch := none, attempts := 0, timeout := none } :
        PlanLane).Ok := by
      refine ok.still rfl rfl rfl rfl (Nat.zero_le _) ?_ filled
      by_cases restore : w.kind = .restore
      · exact .inr ⟨if_pos restore, settle⟩
      · exact .inl (if_neg restore)
    have erased (deep : 2 ≤ x.stack.length) := still.sublist (x.stack.eraseIdx_sublist (w.position - 1))
      (by
        intro empty
        have length := List.length_eraseIdx (l := x.stack) (i := w.position - 1)
        rw [empty, List.length_nil] at length
        split at length <;> omega) rfl
    have tagged := still.retag (tagAt_sameButTags x.stack w.position .stale)
    unfold State.failedStack
    unfold SwitchRecord.targets at place
    split <;> rename_i kind <;> simp only [kind] at place
    · exact erased (by omega)
    · exact erased (by omega)
    · exact tagged
    · exact tagged
  | timerStopped x => exact fun ok => { ok with settle := nofun }
  | restored x d last =>
    intro ok
    rename_i e
    obtain ⟨below, split⟩ := List.getLast?_eq_some_iff.mp last
    have depth : 1 ≤ x.stack.length := by simp [split]
    refine ok.moving rfl rfl rfl ⟨⟨depth, rfl⟩, ?_⟩ (Nat.zero_le _) rfl rfl rfl (by simp [split])
    simp [split]
  | cleared x empty enabled => exact fun ok => absurd empty (ok.enabled enabled)
  | continued x state =>
    intro ok
    exact ok.still rfl rfl (ok.no_switch (by rw [state]; rfl)) (ok.no_timeout (by rw [state]; rfl)) (Nat.zero_le _)
      (.inl rfl) (ok.enabled (by simp [state]))
  | pushed x between valid small own free => exact fun ok => ok.pushed between valid small own free
  | popped x state =>
    intro ok
    exact { ok with
      depth := (List.dropLast_sublist _).length_le.trans ok.depth
      enabled := fun enabled => absurd state enabled
      entries := fun e mem => ok.entries e (List.mem_of_mem_dropLast mem)
      target := fun w hw => by rw [ok.no_switch (by rw [state]; rfl)] at hw; cases hw }

/-! ## The invariant -/

theorem PlanLane.reset_ok (b : Band) : (PlanLane.reset b).Ok where
  depth := Nat.zero_le _
  enabled enabled := absurd rfl enabled
  entries _ mem := absurd mem List.not_mem_nil
  switching := rfl
  target _ hw := by cases hw
  attempts := Nat.zero_le _
  settle := nofun
  timeout := rfl

/-- A lane out of service keeps its stack and its band. -/
theorem PlanLane.Ok.disabled {x : PlanLane} (ok : x.Ok) :
    ({ x with state := .disabled, switch := none, timeout := none, settle := none, attempts := 0 } : PlanLane).Ok where
  depth := ok.depth
  enabled enabled := absurd rfl enabled
  entries := ok.entries
  switching := rfl
  target _ hw := by cases hw
  attempts := Nat.zero_le _
  settle := nofun
  timeout := rfl

theorem closeLane_plans (s : State) (l : Lane) : (s.closeLane l).plans = s.plans :=
  s.closeLane_changesOnly l .plans (by decide)

theorem State.takeOutOfService_plans (s : State) (l : Lane) :
    (s.takeOutOfService l).plans = s.plans.set l { s.plans.get l with
      state := .disabled, switch := none, timeout := none, settle := none, attempts := 0 } := by
  unfold State.takeOutOfService
  dsimp only
  rw [setPlan_plans, closeLane_plans]

theorem disableOwner_plansOk (lane : Byte) {s : State} (ok : s.PlansOk) : (disableOwner lane s).1.PlansOk := by
  refine withLane_keeps ok fun l => ?_
  split
  · exact ok
  · intro m
    rw [s.takeOutOfService_plans, PerLane.get_set]
    split
    · exact (ok l).disabled
    · exact ok m

theorem exec_plansOk {c : Instr} {s t : State} (touched : .plans ∈ footprint c) (run : exec c s = .next t)
    (params : s.params.Ok) (ok : s.PlansOk) : t.PlansOk := by
  cases other : remakesPlans c with
  | false => exact fun l => ((exec_plansMove run ok touched other).lanes l).ok params (ok l)
  | true =>
    cases c with
    | powerOnReset =>
      cases run
      exact fun l => by cases l <;> exact PlanLane.reset_ok _
    | softResetBlock b =>
      cases (beq_iff_eq.mp other : b = .pls)
      refine event_keeps (show execSoftResetBlock .pls s = _ from run) ok fun _ => ?_
      unfold State.takeReset
      split
      · have values : (({ (s.dropWork .pls).blockValues .pls with resets := s.resets.erase .pls } : State)).PlansOk :=
          fun l => by cases l <;> exact PlanLane.reset_ok _
        unfold State.finishSoftReset
        split
        · exact plansOk_dependsOn _ _ (by simp [State.sameAt]) values
        · exact values
      · exact ok
    | disable lane =>
      exact plansOk_dependsOn.transact (by decide) (show execDisable lane s = _ from run) ok
        fun u hu => disableOwner_plansOk lane hu
    | _ => cases other

/-- Settles O7: every move of a lane keeps its stack, plan state, switch record and timers consistent. -/
theorem stepKeepsPlanStacks : Obligations.StepKeepsPlanStacks := by
  unfold Obligations.StepKeepsPlanStacks
  intro s t params ok run
  obtain moved | ⟨c, u, moved, run⟩ := step_cases run
  · exact plansOk_dependsOn.keep moved (by decide) ok
  · have same : u.params = s.params := moved .params (by decide)
    have ok : u.PlansOk := plansOk_dependsOn.keep moved (by decide) ok
    by_cases touched : .plans ∈ footprint c
    · exact exec_plansOk touched run (same ▸ params) ok
    · exact plansOk_dependsOn.keep (exec_changesOnly run) (by simpa using touched) ok

end Sys2Proof.Machine

/-! The observations of a survey (R63 to R66): the hot readings cut into pieces, the pieces divided in band H, and what one
observation holds of its part. -/

namespace Sys2Proof.Machine

open Sys2Proof

/-! ## Pieces (R63) -/

/-- The piece d does not continue the piece c. -/
def Apart (tol : Nat) (c d : List Reading) : Prop :=
  ∀ a ∈ c.getLast?, ∀ b ∈ d.head?, ¬a.continues tol b

theorem pieces_ne_nil {tol : Nat} {rest : List Reading} : ∀ p ∈ pieces tol rest, p ≠ [] := by
  fun_induction pieces with
  | case1 => simp
  | case2 r rest q p ps found joined ih => simp [found] at ih ⊢; exact ih
  | case3 r rest q p ps found apart ih => simp [found] at ih ⊢; exact ih
  | case4 r rest other ih => simpa using ih

/-- The pieces of the readings r :: rest, from those of the rest. -/
theorem pieces_cons_cases (tol : Nat) (r : Reading) (rest : List Reading) :
    (∃ q p ps, pieces tol rest = (q :: p) :: ps ∧ r.continues tol q ∧ pieces tol (r :: rest) = (r :: q :: p) :: ps) ∨
      (pieces tol (r :: rest) = [r] :: pieces tol rest ∧
        ∀ d ∈ (pieces tol rest).head?, Apart tol [r] d) := by
  rw [pieces]
  cases found : pieces tol rest with
  | nil => exact .inr ⟨rfl, by simp⟩
  | cons d ps =>
    cases d with
    | nil => exact absurd rfl (pieces_ne_nil [] (found ▸ List.mem_cons_self ..))
    | cons q p =>
      by_cases joined : joins tol r q = true
      · exact .inl ⟨q, p, ps, rfl, (joins_iff_continues _ _ _).mp joined, if_pos joined⟩
      · refine .inr ⟨if_neg joined, ?_⟩
        simpa [Apart] using fun joins => joined ((joins_iff_continues _ _ _).mpr joins)

theorem pieces_flatten (tol : Nat) (readings : List Reading) : (pieces tol readings).flatten = readings := by
  induction readings with
  | nil => rfl
  | cons r rest ih =>
    obtain ⟨q, p, ps, found, -, eq⟩ | ⟨eq, -⟩ := pieces_cons_cases tol r rest
    · rw [eq]; rw [found] at ih; simpa using ih
    · rw [eq]; simpa using ih

/-- Within a piece each reading continues the one before. -/
theorem pieces_whole (tol : Nat) (readings : List Reading) :
    ∀ p ∈ pieces tol readings, p.IsChain (Reading.continues tol) := by
  induction readings with
  | nil => simp [pieces]
  | cons r rest ih =>
    obtain ⟨q, p, ps, found, joined, eq⟩ | ⟨eq, -⟩ := pieces_cons_cases tol r rest
    · rw [eq]; rw [found] at ih
      simpa [joined] using ih
    · rw [eq]; simpa using ih

/-- No piece continues the one before. -/
theorem pieces_apart (tol : Nat) (readings : List Reading) : (pieces tol readings).IsChain (Apart tol) := by
  induction readings with
  | nil => simp [pieces]
  | cons r rest ih =>
    obtain ⟨q, p, ps, found, -, eq⟩ | ⟨eq, apart⟩ := pieces_cons_cases tol r rest
    · rw [eq]; rw [found] at ih
      rw [List.isChain_cons] at ih ⊢
      exact ⟨fun d next => by simpa [Apart] using ih.1 d next, ih.2⟩
    · rw [eq, List.isChain_cons]
      exact ⟨apart, ih⟩

/-! ## Division (R64) -/

/-- The cut between two parts: the second does not continue the first, unless both come from one divided piece. -/
def CutAt (tol : Nat) (band : Band) (c d : List Reading) : Prop := Apart tol c d ∨ (band = .h ∧ c.length = 8)

theorem divide_cases (band : Band) (piece : List Reading) :
    (divide band piece = [piece] ∧ (band = .h → piece.length ≤ 8)) ∨
      (divide band piece = [piece.take 8, piece.drop 8] ∧ band = .h ∧ 8 < piece.length) := by
  cases band with
  | l => simp [divide]
  | h => simp only [divide]; split <;> simp <;> omega

theorem divide_flatten (band : Band) (piece : List Reading) : (divide band piece).flatten = piece := by
  obtain ⟨eq, -⟩ | ⟨eq, -⟩ := divide_cases band piece <;> simp [eq]

/-- A part is a stretch of the piece it comes from. -/
theorem divide_infix {band : Band} {piece part : List Reading} (mem : part ∈ divide band piece) : part <:+: piece := by
  obtain ⟨eq, -⟩ | ⟨eq, -⟩ := divide_cases band piece
  · rw [eq, List.mem_singleton] at mem
    exact mem ▸ List.infix_rfl
  · rw [eq] at mem
    simp only [List.mem_cons, List.not_mem_nil, or_false] at mem
    rcases mem with rfl | rfl
    · exact (List.take_prefix 8 piece).isInfix
    · exact (List.drop_suffix 8 piece).isInfix

theorem divide_ne_nil {band : Band} {piece part : List Reading} (filled : piece ≠ []) (mem : part ∈ divide band piece) :
    part ≠ [] := by
  obtain ⟨eq, -⟩ | ⟨eq, -, long⟩ := divide_cases band piece
  · rw [eq, List.mem_singleton] at mem
    exact mem ▸ filled
  · rw [eq] at mem
    simp only [List.mem_cons, List.not_mem_nil, or_false] at mem
    rw [← List.length_pos_iff]
    rcases mem with rfl | rfl
    · simp only [List.length_take]; omega
    · simp only [List.length_drop]; omega

theorem divide_length {band : Band} {piece part : List Reading} (high : band = .h) (short : piece.length ≤ 16)
    (mem : part ∈ divide band piece) : part.length ≤ 8 := by
  obtain ⟨eq, small⟩ | ⟨eq, -, long⟩ := divide_cases band piece
  · rw [eq, List.mem_singleton] at mem
    exact mem ▸ small high
  · rw [eq] at mem
    simp only [List.mem_cons, List.not_mem_nil, or_false] at mem
    rcases mem with rfl | rfl
    · simp only [List.length_take]; omega
    · simp only [List.length_drop]; omega

theorem divide_cutAt (tol : Nat) (band : Band) (piece : List Reading) : (divide band piece).IsChain (CutAt tol band) := by
  obtain ⟨eq, -⟩ | ⟨eq, high, long⟩ := divide_cases band piece
  · simp [eq]
  · rw [eq, List.isChain_pair]
    exact .inr ⟨high, by simp; omega⟩

/-- The parts of one piece end and begin as the piece does. -/
theorem divide_ends {band : Band} {piece : List Reading} :
    (∀ c ∈ (divide band piece).getLast?, c.getLast? = piece.getLast?) ∧
      ∀ c ∈ (divide band piece).head?, c.head? = piece.head? := by
  obtain ⟨eq, -⟩ | ⟨eq, -, long⟩ := divide_cases band piece
  · simp [eq]
  · simp [eq, List.getLast?_drop, List.head?_take, Nat.not_le.mpr long]

/-! ## The parts of a survey -/

/-- The hot readings of a survey (R63). -/
def Survey.hot (p : Params) (v : Survey) : List Reading := v.readings.filter fun r => decide (p.detectLevel ≤ r.level)

/-- The parts of a survey as the intake forms them. -/
def Survey.parts (p : Params) (v : Survey) : List (List Reading) := (pieces p.matchTol (v.hot p)).flatMap (divide v.band)

theorem observations_eq (p : Params) (v : Survey) : observations p v = (v.parts p).map (observe p v) := rfl

theorem parts_flatten (p : Params) (v : Survey) : (v.parts p).flatten = v.hot p := by
  have each : (pieces p.matchTol (v.hot p)).flatMap (fun piece => (divide v.band piece).flatten) = v.hot p := by
    simp only [divide_flatten, List.flatMap_id', pieces_flatten]
  rw [← each, Survey.parts, ← List.flatMap_id, List.flatMap_assoc]
  simp [List.flatMap_id]

theorem parts_ne_nil {p : Params} {v : Survey} {part : List Reading} (mem : part ∈ v.parts p) : part ≠ [] := by
  obtain ⟨piece, found, mem⟩ := List.mem_flatMap.mp mem
  exact divide_ne_nil (pieces_ne_nil piece found) mem

theorem parts_whole {p : Params} {v : Survey} {part : List Reading} (mem : part ∈ v.parts p) :
    part.IsChain (Reading.continues p.matchTol) := by
  obtain ⟨piece, found, mem⟩ := List.mem_flatMap.mp mem
  obtain ⟨before, after, whole⟩ := divide_infix mem
  have chain := pieces_whole _ _ piece found
  rw [← whole] at chain
  exact chain.left_of_append.right_of_append

theorem parts_cutAt (p : Params) (v : Survey) : (v.parts p).IsChain (CutAt p.matchTol v.band) := by
  have filled : [] ∉ (pieces p.matchTol (v.hot p)).map (divide v.band) := by
    simp only [List.mem_map, not_exists, not_and]
    intro piece _ empty
    obtain ⟨eq, -⟩ | ⟨eq, -⟩ := divide_cases v.band piece <;> simp [eq] at empty
  rw [Survey.parts, List.flatMap, List.isChain_flatten filled]
  refine ⟨?_, ?_⟩
  · simp only [List.forall_mem_map]
    exact fun piece _ => divide_cutAt _ _ piece
  · rw [List.isChain_map]
    refine (pieces_apart p.matchTol (v.hot p)).imp fun c d apart x last y first => .inl ?_
    rw [Apart, divide_ends.1 x last, divide_ends.2 y first]
    exact apart

theorem hot_length {p : Params} {v : Survey} (valid : v.valid = true) : (v.hot p).length ≤ 16 := by
  simp only [Survey.valid, Bool.and_eq_true, decide_eq_true_eq] at valid
  obtain ⟨⟨⟨-, few⟩, -⟩, -⟩ := valid
  exact (List.length_filter_le _ _).trans few

theorem parts_small {p : Params} {v : Survey} (valid : v.valid = true) (high : v.band = .h) {part : List Reading}
    (mem : part ∈ v.parts p) : part.length ≤ 8 := by
  obtain ⟨piece, found, mem⟩ := List.mem_flatMap.mp mem
  have short : piece.length ≤ (v.hot p).length := by
    conv_rhs => rw [← pieces_flatten p.matchTol (v.hot p)]
    exact (List.sublist_flatten_of_mem found).length_le
  exact divide_length high (short.trans (hot_length valid)) mem

/-- The intake's parts are the rule's. -/
theorem Survey.parts_parts (p : Params) {v : Survey} (valid : v.valid = true) : v.Parts p (v.parts p) where
  hot := parts_flatten p v
  filled _ := parts_ne_nil
  whole part mem pre post a b eq := by
    have chain := parts_whole mem
    rw [eq, List.isChain_append_cons_cons] at chain
    exact chain.2.1
  cut pre post c d a b eq last first joined := by
    have chain := parts_cutAt p v
    rw [eq, List.isChain_append_cons_cons] at chain
    exact chain.2.1.resolve_left fun apart => apart a last b first joined
  small high _ := parts_small valid high

/-! ## One observation (R65, R66) -/

/-- The greatest of a list of numbers bounds them, and is one of them when there is one. -/
theorem greatest_spec (xs : List Nat) : (∀ x ∈ xs, x ≤ greatest xs) ∧ (xs ≠ [] → greatest xs ∈ xs) := by
  have fold : ∀ (xs : List Nat) (n : Nat),
      n ≤ xs.foldl max n ∧ (∀ x ∈ xs, x ≤ xs.foldl max n) ∧ (xs.foldl max n = n ∨ xs.foldl max n ∈ xs) := by
    intro xs
    induction xs with
    | nil => simp
    | cons x xs ih =>
      intro n
      obtain ⟨start, all, mem⟩ := ih (max n x)
      rw [List.foldl_cons, List.forall_mem_cons, List.mem_cons]
      refine ⟨by omega, ⟨by omega, all⟩, ?_⟩
      rcases mem with eq | mem
      · omega
      · exact .inr (.inr mem)
  obtain ⟨-, all, mem⟩ := fold xs 0
  refine ⟨all, fun filled => ?_⟩
  obtain ⟨x, more, rfl⟩ := List.exists_cons_of_ne_nil filled
  rcases mem with zero | mem
  · have first := all x (List.mem_cons_self ..)
    rw [zero, Nat.le_zero] at first
    rw [greatest, zero, ← first]
    exact List.mem_cons_self ..
  · exact mem

/-- The earliest rise and the latest fall of some bursts. -/
def Bounds (bursts : List (Nat × Nat)) (b : Nat × Nat) : Prop :=
  (∃ x ∈ bursts, x.1 = b.1) ∧ (∃ x ∈ bursts, x.2 = b.2) ∧ ∀ x ∈ bursts, b.1 ≤ x.1 ∧ x.2 ≤ b.2

theorem Bounds.unique {bursts : List (Nat × Nat)} {a b : Nat × Nat} (ha : Bounds bursts a) (hb : Bounds bursts b) : a = b := by
  obtain ⟨⟨r, hr, er⟩, ⟨f, hf, ef⟩, alla⟩ := ha
  obtain ⟨⟨r', hr', er'⟩, ⟨f', hf', ef'⟩, allb⟩ := hb
  have := alla r' hr'; have := alla f' hf'; have := allb r hr; have := allb f hf
  exact Prod.ext (by omega) (by omega)

theorem Bounds.cons {bursts : List (Nat × Nat)} {a b c : Nat × Nat} (bounds : Bounds ((min a.1 b.1, max a.2 b.2) :: bursts) c) :
    Bounds (a :: b :: bursts) c := by
  simp only [Bounds, List.exists_mem_cons_iff, List.forall_mem_cons] at bounds ⊢
  obtain ⟨rise, fall, all⟩ := bounds
  refine ⟨?_, ?_, ⟨by omega, by omega, all.2⟩⟩
  · rcases rise with eq | rest
    · omega
    · exact .inr (.inr rest)
  · rcases fall with eq | rest
    · omega
    · exact .inr (.inr rest)

/-- A piece's burst: none without bursts, else the earliest rise and the latest fall. -/
theorem pieceBurst_cases (piece : List Reading) :
    (piece.filterMap (·.burst) = [] ∧ pieceBurst piece = none) ∨
      ∃ b, Bounds (piece.filterMap (·.burst)) b ∧ pieceBurst piece = some b := by
  unfold pieceBurst
  cases piece.filterMap (·.burst) with
  | nil => exact .inl ⟨rfl, rfl⟩
  | cons a bursts =>
    refine .inr ?_
    rw [List.foldl_cons]
    induction bursts generalizing a with
    | nil => exact ⟨a, by simp [Bounds], rfl⟩
    | cons b bursts ih =>
      obtain ⟨c, bounds, eq⟩ := ih (min a.1 b.1, max a.2 b.2)
      exact ⟨c, bounds.cons, eq⟩

theorem observe_describes (p : Params) (v : Survey) {part : List Reading} (filled : part ≠ []) :
    Observation.Describes p v part (observe p v part) := by
  have greatest_map (f : Reading → Nat) : (∀ x ∈ part, f x ≤ greatest (part.map f)) ∧ ∃ x ∈ part, f x = greatest (part.map f) := by
    obtain ⟨all, mem⟩ := greatest_spec (part.map f)
    exact ⟨fun x i => all _ (List.mem_map_of_mem i), List.mem_map.mp (mem (by simpa using filled))⟩
  refine ⟨fun x first => by simp [observe, first], greatest_map _, greatest_map _, fun quiet => ?_, ?_, ?_⟩
  · obtain ⟨-, none⟩ | ⟨b, ⟨⟨x, mem, -⟩, -⟩, -⟩ := pieceBurst_cases part
    · simp [observe, none]
    · obtain ⟨r, i, burst⟩ := List.mem_filterMap.mp mem
      rw [quiet r i] at burst
      cases burst
  · intro rise fall ⟨x, i, f, hx⟩ ⟨y, j, r, hy⟩ all
    have given : Bounds (part.filterMap (·.burst)) (rise, fall) := by
      refine ⟨⟨(rise, f), List.mem_filterMap.mpr ⟨x, i, hx⟩, rfl⟩, ⟨(r, fall), List.mem_filterMap.mpr ⟨y, j, hy⟩, rfl⟩, ?_⟩
      intro b mem
      obtain ⟨z, k, hz⟩ := List.mem_filterMap.mp mem
      exact all z k b.1 b.2 hz
    obtain ⟨none, -⟩ | ⟨b, bounds, found⟩ := pieceBurst_cases part
    · have mem := List.mem_filterMap.mpr ⟨x, i, hx⟩
      rw [none] at mem
      cases mem
    · rw [bounds.unique given] at found
      simp [observe, found, after]
  · simp [observe, guessKind, and_assoc]

/-- The observations of a survey describe its parts (R63 to R66). -/
theorem observations_describe (p : Params) (v : Survey) :
    List.Forall₂ (fun part o => Observation.Describes p v part o) (v.parts p) (observations p v) := by
  rw [observations_eq, List.forall₂_map_right_iff, List.forall₂_same]
  exact fun part mem => observe_describes p v (parts_ne_nil mem)

/-! ## Ranges of an observation -/

/-- An observation within the ranges that a record takes from it (R32, R33, R36). -/
structure Observation.Ok (o : Observation) : Prop where
  span : o.span.isInterfererSpan = true
  level : o.level ≤ 63
  busy : o.busy ≤ 64
  cadenced : o.guess = .cadenced → o.span.band = .l ∧ o.burst.isSome = true

/-- The readings of a part are of adjacent slices. -/
theorem slice_of_chain {tol : Nat} : ∀ {part : List Reading} {x : Reading}, (x :: part).IsChain (Reading.continues tol) →
    ∃ y ∈ x :: part, y.slice = x.slice + part.length
  | [], x, _ => ⟨x, List.mem_cons_self .., rfl⟩
  | y :: part, x, chain => by
    obtain ⟨joined, rest⟩ := List.isChain_cons_cons.mp chain
    obtain ⟨z, mem, eq⟩ := slice_of_chain rest
    refine ⟨z, List.mem_cons_of_mem _ mem, ?_⟩
    rw [eq, joined.1, List.length_cons]
    omega

theorem mem_parts {p : Params} {v : Survey} {part : List Reading} (mem : part ∈ v.parts p) {x : Reading} (i : x ∈ part) :
    x ∈ v.readings ∧ p.detectLevel ≤ x.level := by
  have hot : x ∈ v.hot p := parts_flatten p v ▸ List.mem_flatten_of_mem mem i
  simpa [Survey.hot] using hot

/-- What R60 checks of a reading. -/
theorem Survey.reading_ok {v : Survey} (valid : v.valid = true) {x : Reading} (mem : x ∈ v.readings) :
    x.slice ≤ 47 ∧ Band.ofSlice x.slice = v.band ∧ x.level ≤ 63 ∧ x.busy ≤ 64 := by
  simp only [Survey.valid, Bool.and_eq_true, List.all_eq_true] at valid
  have ok := valid.2 x mem
  simp only [Reading.valid, Bool.and_eq_true, decide_eq_true_eq, beq_iff_eq] at ok
  obtain ⟨⟨⟨⟨slice, band⟩, level⟩, busy⟩, -⟩ := ok
  exact ⟨slice, band, level, busy⟩

theorem Band.ofSlice_eq_l {n : Nat} : Band.ofSlice n = .l ↔ n < 16 := by
  unfold Band.ofSlice
  split <;> simp [*]

theorem observe_ok (p : Params) {v : Survey} (valid : v.valid = true) {part : List Reading} (mem : part ∈ v.parts p) :
    (observe p v part).Ok := by
  have reading {x : Reading} (i : x ∈ part) := v.reading_ok valid (mem_parts mem i).1
  have filled := parts_ne_nil mem
  have describes := observe_describes p v filled
  obtain ⟨x, rest, rfl⟩ := List.exists_cons_of_ne_nil filled
  have span : (observe p v (x :: rest)).span = ⟨x.slice, rest.length + 1⟩ := describes.span x rfl
  obtain ⟨y, i, last⟩ := slice_of_chain (parts_whole mem)
  obtain ⟨-, firstBand, -, -⟩ := reading (List.mem_cons_self ..)
  obtain ⟨lastSlice, lastBand, -, -⟩ := reading i
  refine ⟨?_, ?_, ?_, fun guess => ?_⟩
  · rw [span]
    cases band : v.band with
    | l =>
      rw [band, Band.ofSlice_eq_l] at firstBand lastBand
      simp only [Span.isInterfererSpan, Span.valid, Span.band, Bool.and_eq_true, Bool.or_eq_true, decide_eq_true_eq, beq_iff_eq,
        Band.ofSlice_eq_l]
      omega
    | h =>
      have small := parts_small valid band mem
      have high : ¬x.slice < 16 := fun low => by rw [Band.ofSlice_eq_l.mpr low, band] at firstBand; cases firstBand
      rw [List.length_cons] at small
      simp only [Span.isInterfererSpan, Span.valid, Span.band, Bool.and_eq_true, Bool.or_eq_true, decide_eq_true_eq, beq_iff_eq,
        Band.ofSlice_eq_l]
      omega
  · obtain ⟨z, j, eq⟩ := describes.level.2
    exact eq ▸ (reading j).2.2.1
  · obtain ⟨z, j, eq⟩ := describes.busy.2
    exact eq ▸ (reading j).2.2.2
  · rw [describes.guess] at guess
    split at guess
    case isTrue burst =>
      refine ⟨?_, burst.1⟩
      rw [span, Span.band]
      exact firstBand.trans burst.2.1
    case isFalse => split at guess <;> cases guess

theorem observations_ok (p : Params) {v : Survey} (valid : v.valid = true) : ∀ o ∈ observations p v, o.Ok := by
  rw [observations_eq, List.forall_mem_map]
  exact fun part mem => observe_ok p valid mem

end Sys2Proof.Machine

/-! The Cadence Tracker between two states (R13 to R27): its fields stay in their ranges, and a consistent-rise count that
moves stays below LOCK_COUNT. -/

namespace Sys2Proof.Machine

open Sys2Proof

/-! ## What an operation leaves of the tracker and the table -/

namespace State

variable (s : State)

@[simp] theorem notifyCadence_tracker : s.notifyCadence.tracker = s.tracker :=
  s.notifyCadence_changesOnly .tracker (by decide)

@[simp] theorem notifyCadence_table : s.notifyCadence.table = s.table := s.notifyCadence_changesOnly .table (by decide)

@[simp] theorem notifyCadence_params : s.notifyCadence.params = s.params := s.notifyCadence_changesOnly .params (by decide)

@[simp] theorem completeClaim_tracker (m : Marks) : (s.completeClaim m).tracker = s.tracker :=
  s.completeClaim_changesOnly m .tracker (by decide)

@[simp] theorem completeClaim_table (m : Marks) : (s.completeClaim m).table = s.table :=
  s.completeClaim_changesOnly m .table (by decide)

@[simp] theorem requestFull_tracker (n : Nat) : (s.requestFull n).tracker = s.tracker :=
  s.requestFull_changesOnly n .tracker (by decide)

@[simp] theorem requestFull_table (n : Nat) : (s.requestFull n).table = s.table :=
  s.requestFull_changesOnly n .table (by decide)

theorem enterFree_tracker : s.enterFree.1.tracker = s.tracker.freed := by
  obtain ⟨h, eq⟩ := s.enterFree_frame
  rw [eq]

theorem enterFree_table : s.enterFree.1.table = s.removePhases.table := by
  obtain ⟨h, eq⟩ := s.enterFree_frame
  rw [eq]

end State

/-! ## The tracker's ranges -/

theorem Mains.range_low (m : Mains) : 15000 ≤ m.range.1 := by cases m <;> decide

theorem Mains.range_high (m : Mains) : m.range.2 ≤ 22000 := by cases m <;> decide

theorem clampInt_bounds {lo hi : Nat} (le : lo ≤ hi) (x : Int) : lo ≤ clampInt lo hi x ∧ clampInt lo hi x ≤ hi := by
  unfold clampInt
  split
  · omega
  · split <;> omega

theorem Mains.clamp_bounds (m : Mains) (x : Int) : 15000 ≤ m.clamp x ∧ m.clamp x ≤ 22000 := by
  have le : m.range.1 ≤ m.range.2 := by cases m <;> decide
  have bounds := clampInt_bounds le x
  exact ⟨m.range_low.trans bounds.1, bounds.2.trans m.range_high⟩

theorem Mains.allows_bounds {m : Mains} {x : Int} (h : m.allows x = true) : 15000 ≤ x.toNat ∧ x.toNat ≤ 22000 := by
  simp only [Mains.allows, Bool.and_eq_true, decide_eq_true_eq] at h
  have low := m.range_low
  have high := m.range_high
  omega

namespace Tracker

variable {t : Tracker}

/-- What the cadence state says of the other fields (R13). -/
theorem Ok.holdover_none (ok : t.Ok) (off : t.predicting = false) : t.holdover = none := by
  have runs := ok.holdoverRuns
  rw [off] at runs
  simpa using runs

theorem Ok.candidate_none (ok : t.Ok) (state : t.state ≠ .acquiring) : t.candidate = none := by
  by_contra some
  obtain ⟨c, found⟩ := Option.ne_none_iff_exists'.mp some
  exact state (ok.candidate c found).1

theorem freed_ok (ok : t.Ok) : t.freed.Ok where
  periodLow := ok.periodLow
  periodHigh := ok.periodHigh
  consistentLow := Nat.zero_le _
  candidate _ h := by cases h
  outliersLow := Nat.zero_le _
  outliersAcquiring _ := Nat.zero_le _
  missesLow := Nat.zero_le _
  freeAnchor := by simp [freed]
  freeReference := by simp [freed]
  holdoverRuns := rfl

end Tracker

/-! ## The moves of the operations -/

/-- The parameters stay, the tracker stays in its ranges, and a consistent-rise count that moves stays below LOCK_COUNT. -/
structure TrackerMove (s t : State) : Prop where
  params : t.params = s.params
  ok : s.params.Ok → s.tracker.Ok → t.tracker.Ok
  count : s.params.Ok → s.tracker.Ok → t.tracker.consistent = s.tracker.consistent ∨ t.tracker.consistent < s.params.lockCount

theorem Params.Ok.lockCount {p : Params} (ok : p.Ok) : 2 ≤ p.lockCount ∧ p.lockCount ≤ 8 := ok.inRange .lockCount

namespace TrackerMove

variable {s t u : State}

theorem of_eq (params : t.params = s.params) (tracker : t.tracker = s.tracker) : TrackerMove s t :=
  ⟨params, fun _ ok => tracker ▸ ok, fun _ _ => .inl (by rw [tracker])⟩

theorem refl (s : State) : TrackerMove s s := of_eq rfl rfl

theorem of_same {w : List Part} (h : ChangesOnly w s t) (params : .params ∉ w) (tracker : .tracker ∉ w) : TrackerMove s t :=
  of_eq (h .params params) (h .tracker tracker)

theorem trans (first : TrackerMove s t) (second : TrackerMove t u) : TrackerMove s u := by
  refine ⟨second.params.trans first.params, fun params ok => second.ok (first.params ▸ params) (first.ok params ok),
    fun params ok => ?_⟩
  have now := second.count (first.params ▸ params) (first.ok params ok)
  rw [first.params] at now
  rcases now with same | below
  · rw [same]; exact first.count params ok
  · exact .inr below

/-- A new value of the tracker. -/
theorem of_set {x : Tracker} (params : t.params = s.params) (set : t.tracker = x)
    (ok : s.params.Ok → s.tracker.Ok → x.Ok ∧ (x.consistent = s.tracker.consistent ∨ x.consistent < s.params.lockCount)) :
    TrackerMove s t := by
  subst set
  exact ⟨params, fun p k => (ok p k).1, fun p k => (ok p k).2⟩

theorem ite {c : Prop} [Decidable c] (yes : c → TrackerMove s t) (no : ¬c → TrackerMove s u) :
    TrackerMove s (if c then t else u) := by
  split
  · exact yes ‹_›
  · exact no ‹_›

end TrackerMove

namespace State

variable (s : State)

theorem startAcquisition_moves (slot : Slot) (rise : AirTime) (free : s.tracker.state = .free) :
    TrackerMove s (s.startAcquisition slot rise) := by
  refine .of_set (s.setTracker _).notifyCadence_params (s.setTracker _).notifyCadence_tracker fun params ok =>
    ⟨{ ok with
      consistentLow := Nat.zero_le _, candidate := nofun, outliersLow := Nat.zero_le _
      outliersAcquiring := fun _ => Nat.zero_le _, missesLow := Nat.zero_le _
      freeAnchor := by simp, freeReference := by simp
      holdoverRuns := ?_ }, .inr (Nat.lt_of_lt_of_le Nat.zero_lt_two params.lockCount.1)⟩
  have stopped := ok.holdover_none (by simp [Tracker.predicting, free])
  simp [Tracker.predicting, stopped]

/-- A rise that ends an acquisition's candidate leaves the tracker ready for another (R17, R18, R19). -/
theorem dropCandidate_moves {reference : Option AirTime} (acquiring : s.tracker.state = .acquiring)
    (present : reference = s.tracker.reference ∨ reference.isSome = true) :
    TrackerMove s (s.setTracker { s.tracker with candidate := none, consistent := 0, outliers := 0, reference := reference }) := by
  refine .of_set rfl rfl fun params ok =>
    ⟨{ ok with
      consistentLow := Nat.zero_le _, candidate := nofun, outliersLow := Nat.zero_le _
      outliersAcquiring := fun _ => Nat.zero_le _
      freeReference := ?_ }, .inr (Nat.lt_of_lt_of_le Nat.zero_lt_two params.lockCount.1)⟩
  rcases present with same | given
  · exact same ▸ ok.freeReference
  · simpa [acquiring, Option.isSome_iff_ne_none] using given

theorem riseWithoutCandidate_moves (reference rise : AirTime) (acquiring : s.tracker.state = .acquiring) :
    TrackerMove s (s.riseWithoutCandidate reference rise) := by
  have present : (some rise = none) ↔ s.tracker.state = .free := by simp [acquiring]
  refine .ite (fun _ => .refl s) fun _ => .ite (fun allowed => .of_set rfl rfl fun params ok => ?_) fun _ =>
    .of_set rfl rfl fun _ ok => ⟨{ ok with freeReference := present }, .inl rfl⟩
  refine ⟨{ ok with
    consistentLow := (show 1 ≤ 7 by decide), outliersLow := Nat.zero_le _, outliersAcquiring := fun _ => Nat.zero_le _
    freeReference := present
    candidate := fun c eq => ⟨acquiring, ?_⟩ }, .inr params.lockCount.1⟩
  cases eq
  exact Mains.allows_bounds allowed

theorem riseWithCandidate_moves (reference : AirTime) (c : Nat) (rise : AirTime) (acquiring : s.tracker.state = .acquiring)
    (anchor : s.tracker.anchor ≠ none) : TrackerMove s (s.riseWithCandidate reference c rise) := by
  have present : (some rise = none) ↔ s.tracker.state = .free := by simp [acquiring]
  unfold riseWithCandidate
  dsimp only
  refine .ite (fun _ => .refl s) fun _ => .ite (fun _ => ?_) fun _ => .ite (fun few => ?_) fun _ =>
    s.dropCandidate_moves acquiring (.inr rfl)
  · -- the count may reach LOCK_COUNT here, and testLock then clears it
    generalize refined : refinedCandidate _ _ _ _ _ = c'
    have bounds : 15000 ≤ c' ∧ c' ≤ 22000 := refined ▸ Mains.clamp_bounds _ _
    have counted (short : s.params.Ok → s.tracker.Ok → s.tracker.consistent + 1 < s.params.lockCount) :
        TrackerMove s (s.setTracker { s.tracker with
          candidate := some c', consistent := s.tracker.consistent + 1, outliers := 0, reference := some rise }) := by
      refine .of_set rfl rfl fun params ok => ⟨{ ok with
        consistentLow := (show s.tracker.consistent + 1 ≤ 7 from ?_), outliersLow := Nat.zero_le _
        outliersAcquiring := fun _ => Nat.zero_le _, freeReference := present
        candidate := fun x eq => ⟨acquiring, ?_⟩ }, .inr (short params ok)⟩
      · have := params.lockCount.2; have := short params ok; omega
      · cases eq; exact bounds
    unfold testLock
    split
    case isFalse short => exact counted fun _ _ => Nat.lt_of_not_le short
    case isTrue =>
      exact .of_set (State.notifyCadence_params _) (State.notifyCadence_tracker _) fun params ok =>
        ⟨{ periodLow := bounds.1, periodHigh := bounds.2, consistentLow := Nat.zero_le _, candidate := nofun
           outliersLow := Nat.zero_le _, outliersAcquiring := nofun, missesLow := Nat.zero_le _
           freeAnchor := by simpa using anchor, freeReference := by simp, holdoverRuns := rfl },
          .inr (Nat.lt_of_lt_of_le Nat.zero_lt_two params.lockCount.1)⟩
  · exact .of_set rfl rfl fun _ ok => ⟨{ ok with
      outliersLow := (show s.tracker.outliers + 1 ≤ 3 by omega)
      outliersAcquiring := fun _ => (show s.tracker.outliers + 1 ≤ 2 by omega) }, .inl rfl⟩

theorem riseAcquiring_moves (reference rise : AirTime) (acquiring : s.tracker.state = .acquiring) (anchor : s.tracker.anchor ≠ none) :
    TrackerMove s (s.riseAcquiring reference rise) := by
  unfold riseAcquiring
  split
  · exact s.riseWithoutCandidate_moves reference rise acquiring
  · refine .ite (fun _ => s.riseWithCandidate_moves reference _ rise acquiring anchor) fun _ => ?_
    exact (s.dropCandidate_moves acquiring (.inl rfl)).trans (riseWithoutCandidate_moves _ reference rise acquiring)

theorem refineLock_moves (rise : AirTime) (e : Int) (predicts : s.tracker.predicting = true) :
    TrackerMove s (s.refineLock rise e) := by
  have notFree : s.tracker.state ≠ .free := fun free => by simp [Tracker.predicting, free] at predicts
  have bounds := Mains.clamp_bounds s.params.mainsNominal (s.tracker.period + part e 16)
  refine .of_set rfl rfl fun _ ok =>
    ⟨{ ok with
      periodLow := bounds.1, periodHigh := bounds.2, outliersLow := Nat.zero_le _, outliersAcquiring := nofun
      missesLow := Nat.zero_le _
      candidate := fun c found => ?_, freeAnchor := ?_, freeReference := by simp [refineLock], holdoverRuns := rfl }, .inl rfl⟩
  · have none := ok.candidate_none fun acquiring => by simp [Tracker.predicting, acquiring] at predicts
    rw [show s.tracker.candidate = some c from found] at none
    cases none
  · simpa [refineLock, notFree] using ok.freeAnchor

theorem loseLock_tracker (rise : AirTime) :
    (s.loseLock rise).tracker = { s.tracker with
      state := .acquiring, candidate := some s.tracker.period, consistent := 1, outliers := 0, reference := some rise
      anchorMisses := 0, holdover := none } := by
  unfold loseLock
  rw [completeClaim_tracker, notifyCadence_tracker]
  rfl

theorem loseLock_moves (rise : AirTime) (anchor : s.tracker.anchor ≠ none) : TrackerMove s (s.loseLock rise) := by
  refine .of_set (s.loseLock_changesOnly rise .params (by decide)) (s.loseLock_tracker rise) fun params ok => ⟨{ ok with
    consistentLow := (show 1 ≤ 7 by decide)
    candidate := fun c eq => ⟨rfl, ?_⟩
    outliersLow := Nat.zero_le _, outliersAcquiring := fun _ => Nat.zero_le _, missesLow := Nat.zero_le _
    freeAnchor := by simpa using anchor, freeReference := by simp, holdoverRuns := rfl }, .inr params.lockCount.1⟩
  cases eq
  exact ⟨ok.periodLow, ok.periodHigh⟩

theorem lockedOutlier_moves (locked : s.tracker.state = .locked) (few : s.tracker.outliers + 1 < 4) :
    TrackerMove s (s.setTracker { s.tracker with outliers := s.tracker.outliers + 1 }) :=
  .of_set rfl rfl fun _ ok => ⟨{ ok with
    outliersLow := (show s.tracker.outliers + 1 ≤ 3 by omega)
    outliersAcquiring := fun acquiring => by simp [locked] at acquiring }, .inl rfl⟩

theorem takeMiss_moves (slot : Slot) : TrackerMove s (s.takeMiss slot) := by
  unfold takeMiss
  split
  case _ => exact .refl s
  case _ => exact .refl s
  case _ => exact .refl s
  case _ locked =>
    refine .ite (fun _ => .ite (fun few => ?_) fun _ => ?_) fun _ => .refl s
    · exact .of_set rfl rfl fun _ ok => ⟨{ ok with missesLow := (show s.tracker.anchorMisses + 1 ≤ 7 by omega) }, .inl rfl⟩
    · refine .of_set (notifyCadence_params _) (notifyCadence_tracker _) fun _ ok => ⟨{ ok with
        candidate := fun c found => ?_, outliersAcquiring := nofun, missesLow := Nat.zero_le _
        freeAnchor := ?_, freeReference := ?_, holdoverRuns := ?_ }, .inl rfl⟩
      · have none := ok.candidate_none fun acquiring => by rw [locked] at acquiring; cases acquiring
        rw [show s.tracker.candidate = some c from found] at none
        cases none
      · simpa [locked] using ok.freeAnchor
      · simpa [locked] using ok.freeReference
      · simpa [locked, Tracker.predicting] using ok.holdoverRuns

theorem enterFree_moves : TrackerMove s s.enterFree.1 := by
  have params : s.enterFree.1.params = s.params := by obtain ⟨h, eq⟩ := s.enterFree_frame; rw [eq]
  exact .of_set params s.enterFree_tracker fun params ok =>
    ⟨Tracker.freed_ok ok, .inr (Nat.lt_of_lt_of_le Nat.zero_lt_two params.lockCount.1)⟩

theorem completeClaim_moves (m : Marks) : TrackerMove s (s.completeClaim m) :=
  .of_same (s.completeClaim_changesOnly m) (by decide) (by decide)

theorem expireHoldover_moves : TrackerMove s s.expireHoldover :=
  .ite (fun _ => s.enterFree_moves.trans (completeClaim_moves _ _)) fun _ => .refl s

/-- The anchor notice finds an anchor's slot for a tracker that had one (R26). -/
theorem anchorNotice_moves (anchor : s.tracker.anchor ≠ none) : TrackerMove s s.anchorNotice.1 := by
  unfold anchorNotice
  split
  · refine .of_set rfl rfl fun _ ok => ⟨{ ok with
      outliersLow := Nat.zero_le _, outliersAcquiring := fun _ => Nat.zero_le _, missesLow := Nat.zero_le _
      freeAnchor := ?_ }, .inl rfl⟩
    simpa [anchor] using ok.freeAnchor
  · exact s.enterFree_moves

theorem finishClaim_moves {gone : Bool} (anchor : gone = true → s.tracker.anchor ≠ none) (m : Marks) :
    TrackerMove s (s.finishClaim gone m) :=
  .ite (fun g => (s.anchorNotice_moves (anchor g)).trans (completeClaim_moves _ _)) fun _ => s.completeClaim_moves m

end State

end Sys2Proof.Machine

/-! The records of the Interferer Table between two states (R32 to R52): what a survey and the host commands write stays in
the ranges of Table 3-1, the tracker's anchor names a CADENCED record, and records have phases only while the tracker is
predicting. -/

namespace Sys2Proof.Machine

open Sys2Proof

/-! ## One record -/

section Records

variable {p : Params} {t : Tracker} {o : Observation} {r q : Interferer}

theorem clampOn_bounds (ok : t.Ok) (x : Int) : 500 ≤ clampOn t.period x ∧ clampOn t.period x ≤ 21500 := by
  have low := ok.periodLow
  have high := ok.periodHigh
  have bounds := clampInt_bounds (lo := 500) (hi := t.period - 500) (by omega) x
  unfold clampOn
  omega

theorem onCircle_bound (ok : t.Ok) (x : Int) : onCircle t.period x ≤ 21999 := by
  have low := ok.periodLow
  have high := ok.periodHigh
  have less := onCircle_lt (p := t.period) (by omega) x
  omega

theorem Observation.phase_bound (ok : t.Ok) {φ : Nat} (h : o.phase t = some φ) : φ ≤ 21999 := by
  unfold Observation.phase at h
  split at h
  case _ found _ =>
    cases h
    rw [Prediction.phaseOf, ((t.prediction_iff _).mp found).2.2]
    exact onCircle_bound ok _
  case _ => cases h
  case _ => cases h

theorem Observation.phase_of_not_predicting (off : t.predicting = false) : o.phase t = none := by
  simp [Observation.phase, Tracker.prediction, off]

/-- The ranges of an emission (Table 3-1). -/
structure Emission.Ok (e : Emission) : Prop where
  duty : ∀ d, e.duty = some d → d ≤ 64
  onDuration : ∀ x, e.onDuration = some x → 500 ≤ x ∧ x ≤ 21500
  phase : ∀ x φ, e = .cadenced x (some φ) → φ ≤ 21999

theorem Emission.Ok.cadenced {x : Nat} {φ : Option Nat} (on : 500 ≤ x ∧ x ≤ 21500) (phase : ∀ n, φ = some n → n ≤ 21999) :
    (Emission.cadenced x φ).Ok :=
  ⟨nofun, fun _ h => by cases h; exact on, fun _ n h => by cases h; exact phase n rfl⟩

theorem Emission.Ok.steady {d : Nat} (h : d ≤ 64) : (Emission.steady d).Ok :=
  ⟨fun _ e => by cases e; exact h, nofun, nofun⟩

theorem Emission.Ok.sporadic {d : Nat} (h : d ≤ 64) : (Emission.sporadic d).Ok :=
  ⟨fun _ e => by cases e; exact h, nofun, nofun⟩

theorem Interferer.Ok.emission (ok : r.Ok) : r.emission.Ok :=
  ⟨ok.duty, ok.onDuration, fun x φ h => ok.phase φ (by simp [Interferer.phase, h])⟩

/-- A record of given emission, span, level, confidence and misses in their ranges. -/
theorem Interferer.Ok.of_emission (emission : r.emission.Ok) (span : r.span.isInterfererSpan = true) (level : r.level ≤ 63)
    (confidence : r.confidence ≤ 15) (misses : r.misses ≤ 255) (band : r.isCadenced = true → r.span.band = .l) : r.Ok where
  span := span
  level := level
  confidence := confidence
  misses := misses
  duty := emission.duty
  onDuration := emission.onDuration
  phase φ h := by
    unfold Interferer.phase at h
    split at h
    case _ found => exact emission.phase _ _ (found.trans (by rw [h]))
    case _ => cases h
    case _ => cases h
  cadencedBand := band

/-- A record's emission, of the three kinds. -/
theorem Interferer.isCadenced_iff : r.isCadenced = true ↔ ∃ x φ, r.emission = .cadenced x φ := by
  unfold Interferer.isCadenced
  cases r.emission <;> simp

theorem record_isCadenced : (o.record t).isCadenced = true ↔ o.guess = .cadenced := by
  unfold Interferer.isCadenced Observation.record
  cases o.guess <;> simp

theorem record_ok (ok : t.Ok) (observed : o.Ok) : (o.record t).Ok := by
  refine .of_emission ?_ observed.span observed.level (by decide : 1 ≤ 15) (Nat.zero_le _) fun h =>
    (observed.cadenced (record_isCadenced.mp h)).1
  unfold Observation.record
  cases o.guess with
  | cadenced => exact .cadenced (clampOn_bounds ok _) fun _ => Observation.phase_bound ok
  | steady => exact .steady observed.busy
  | sporadic => exact .sporadic observed.busy

theorem record_phase (off : t.predicting = false) : (o.record t).phase = none := by
  unfold Observation.record Interferer.phase
  cases o.guess <;> simp [Observation.phase_of_not_predicting off]

theorem matched_emission :
    (r.matched p t o).emission = if r.life = .pinned then r.emission.matchedPinned t o else r.emission.matched p t o := by
  unfold Interferer.matched
  dsimp only
  split <;> rfl

/-- A record is CADENCED exactly when it has an on-duration. -/
theorem Interferer.isCadenced_eq (r : Interferer) : r.isCadenced = r.emission.onDuration.isSome := by
  unfold Interferer.isCadenced
  cases r.emission <;> rfl

theorem matched_isCadenced : (r.matched p t o).isCadenced = r.isCadenced := by
  rw [Interferer.isCadenced_eq, Interferer.isCadenced_eq, matched_emission]
  split
  · cases r.emission with
    | cadenced x φ => cases φ <;> rfl
    | steady d => rfl
    | sporadic d => rfl
  · cases r.emission with
    | cadenced x φ => cases burst : o.burst <;> simp [Emission.matched, burst, Emission.onDuration]
    | steady d => simp only [Emission.matched]; split <;> rfl
    | sporadic d => simp only [Emission.matched]; split <;> rfl

theorem matchedPinned_ok (ok : t.Ok) {e : Emission} (old : e.Ok) : (e.matchedPinned t o).Ok := by
  unfold Emission.matchedPinned
  split
  · exact .cadenced (old.onDuration _ rfl) fun _ => Observation.phase_bound ok
  · exact old
  · exact old
  · exact old

theorem movedPhase_bound (ok : t.Ok) {held : Option Nat} (old : ∀ n, held = some n → n ≤ 21999) {φ : Nat}
    (h : movedPhase t.period held (o.phase t) = some φ) : φ ≤ 21999 := by
  unfold movedPhase at h
  split at h
  case _ => exact old φ h
  case _ observed => exact Observation.phase_bound ok (observed.trans h)
  case _ => cases h; exact onCircle_bound ok _

theorem duty_step {d busy : Nat} (old : d ≤ 64) (new : busy ≤ 64) : ceilDiv (3 * d + busy) 4 ≤ 64 := by
  unfold ceilDiv
  omega

theorem emission_matched_ok (ok : t.Ok) (observed : o.Ok) {e : Emission} (old : e.Ok) : (e.matched p t o).Ok := by
  cases e with
  | cadenced x φ =>
    unfold Emission.matched
    cases o.burst with
    | none => exact old
    | some b => exact .cadenced (clampOn_bounds ok _) fun _ => movedPhase_bound ok fun _ h => old.phase x _ (by rw [h])
  | steady d =>
    have new := duty_step (old.duty d rfl) observed.busy
    simp only [Emission.matched]
    split
    · exact .steady new
    · exact .sporadic new
  | sporadic d =>
    have new := duty_step (old.duty d rfl) observed.busy
    simp only [Emission.matched]
    split
    · exact .steady new
    · exact .sporadic new

theorem matched_ok (ok : t.Ok) (observed : o.Ok) (kind : o.guess = .cadenced ↔ r.isCadenced = true) (old : r.Ok) :
    (r.matched p t o).Ok := by
  have cadenced : r.isCadenced = true → o.span.band = .l := fun h => (observed.cadenced (kind.mpr h)).1
  have same := matched_isCadenced (p := p) (t := t) (o := o) (r := r)
  unfold Interferer.matched at same ⊢
  dsimp only at same ⊢
  split
  case isTrue pinned =>
    rw [if_pos pinned] at same
    exact .of_emission (matchedPinned_ok ok old.emission) old.span old.level (Nat.min_le_left _ _) (Nat.zero_le _) fun h =>
      old.cadencedBand (same ▸ h)
  case isFalse pinned =>
    rw [if_neg pinned] at same
    exact .of_emission (emission_matched_ok ok observed old.emission) observed.span observed.level (Nat.min_le_left _ _)
      (Nat.zero_le _) fun h => cadenced (same ▸ h)

/-- The phase of an emission. -/
def Emission.phase? (e : Emission) : Option Nat :=
  match e with
  | .cadenced _ φ => φ
  | .steady _ => none
  | .sporadic _ => none

theorem Interferer.phase_eq (r : Interferer) : r.phase = r.emission.phase? := rfl

theorem matched_phase (off : t.predicting = false) (without : r.phase = none) : (r.matched p t o).phase = none := by
  have unseen := Observation.phase_of_not_predicting (o := o) off
  rw [Interferer.phase_eq] at without ⊢
  rw [matched_emission]
  cases e : r.emission with
  | cadenced x φ =>
    rw [e] at without
    rw [show φ = none from without]
    split
    · simp [Emission.matchedPinned, unseen, Emission.phase?]
    · cases burst : o.burst <;> simp [Emission.matched, burst, movedPhase, unseen, Emission.phase?]
  | steady d =>
    split
    · rfl
    · simp only [Emission.matched]; split <;> rfl
  | sporadic d =>
    split
    · rfl
    · simp only [Emission.matched]; split <;> rfl

/-- A miss raises the misses and may fade the record (R43). -/
theorem missed_eq (h : r.missed p = some q) : ∃ m life, m ≤ max 255 r.misses ∧ q = { r with misses := m, life := life } := by
  have least : min 255 (r.misses + 1) ≤ max 255 r.misses := by omega
  unfold Interferer.missed at h
  dsimp only at h
  split at h
  · split at h <;> cases h
    exact ⟨_, _, least, rfl⟩
  · split at h
    · split at h <;> cases h
      exact ⟨_, _, least, rfl⟩
    · cases h
      exact ⟨_, _, least, rfl⟩
  · split at h <;> cases h
    exact ⟨_, _, least, rfl⟩
  · cases h
    exact ⟨r.misses, r.life, by omega, rfl⟩

/-- A record whose misses and life state alone move. -/
theorem Interferer.Ok.moved (ok : r.Ok) {m : Nat} (few : m ≤ 255) (life : Life) : ({ r with misses := m, life := life } : Interferer).Ok :=
  { ok with misses := few }

theorem missed_ok (h : r.missed p = some q) (ok : r.Ok) : q.Ok := by
  obtain ⟨m, life, few, rfl⟩ := missed_eq h
  exact ok.moved (few.trans (by have := ok.misses; omega)) life

theorem withoutPhase_ok (ok : r.Ok) : ({ r with emission := r.emission.withoutPhase } : Interferer).Ok := by
  refine .of_emission ?_ ok.span ok.level ok.confidence ok.misses fun h =>
    ok.cadencedBand (State.isCadenced_withoutPhase r ▸ h)
  have old := ok.emission
  dsimp only
  cases e : r.emission with
  | cadenced x φ => rw [e] at old; exact .cadenced (old.onDuration x rfl) nofun
  | steady d => rw [e] at old; exact old
  | sporadic d => rw [e] at old; exact old

/-- A record with a new emission of the same kind, a new span and a new level. -/
theorem missed_isCadenced (h : r.missed p = some q) : q.isCadenced = r.isCadenced := by
  obtain ⟨m, life, -, rfl⟩ := missed_eq h
  rfl

theorem missed_phase (h : r.missed p = some q) : q.phase = r.phase := by
  obtain ⟨m, life, -, rfl⟩ := missed_eq h
  rfl

end Records

/-! ## The slots of the table -/

theorem slot_set (table : Vector (Option Interferer) 32) (j k : Slot) (r : Option Interferer) :
    (table.set k r)[j] = if j = k then r else table[j] := by
  rw [Fin.getElem_fin, Vector.getElem_set]
  simp only [Fin.ext_iff, eq_comm (a := k.val), Fin.getElem_fin]

/-! ## The intake (R61 to R72) -/

namespace Intake

variable {s : State} {i : Intake} {o : Observation} {k : Slot}

/-- The slot chosen is a candidate. -/
theorem candidate_of_choose (h : i.choose s o = some k) : ∃ n, i.candidate s o k = some n := by
  obtain ⟨x, found, rfl⟩ := Option.map_eq_some_iff.mp h
  refine ⟨x.2, ?_⟩
  clear h
  revert found x
  refine List.foldlRecOn (motive := fun best => ∀ x : Slot × Nat, best = some x → i.candidate s o x.1 = some x.2) _ _ ?_ ?_
  · exact fun _ h => nomatch h
  intro best ih j _ x eq
  split at eq
  · exact ih x eq
  case _ n found => cases eq; exact found
  case _ n m l found =>
    split at eq
    · cases eq; exact found
    · exact ih x eq

/-- The record evicted is TENTATIVE and not taken. -/
theorem of_evictee (h : i.evictee = some k) : ∃ r, i.table[k] = some r ∧ r.life = .tentative ∧ i.isTaken k = false := by
  obtain ⟨x, found, rfl⟩ := Option.map_eq_some_iff.mp h
  refine ⟨x.2, ?_⟩
  clear h
  revert found x
  refine List.foldlRecOn (motive := fun best => ∀ x : Slot × Interferer, best = some x →
    i.table[x.1] = some x.2 ∧ x.2.life = .tentative ∧ i.isTaken x.1 = false) _ _ ?_ ?_
  · exact fun _ h => nomatch h
  intro best ih j _ x eq
  split at eq
  · exact ih x eq
  case _ r found =>
    split at eq
    case isFalse => exact ih x eq
    case isTrue fit =>
      simp only [Bool.and_eq_true, beq_iff_eq, Bool.not_eq_true'] at fit
      split at eq
      · cases eq; exact ⟨found, fit⟩
      · split at eq
        · cases eq; exact ⟨found, fit⟩
        · exact ih x eq

theorem of_empty (h : i.empty = some k) : i.table[k] = none := by
  simpa using List.find?_some h

/-- What taking one observation does: a match, a new record in an EMPTY slot or in that of an evicted one, or a drop. -/
theorem take_cases (s : State) (i : Intake) (o : Observation) :
    (∃ k r, i.table[k] = some r ∧ i.isTaken k = false ∧ (o.guess = .cadenced ↔ r.isCadenced = true) ∧
      Intake.take s i o = { i with
        table := i.table.set k (some (r.matched s.params s.tracker o))
        marks := i.marks.join (changeMarks k r (r.matched s.params s.tracker o)), taken := i.taken ++ [(k, o)] }) ∨
    (∃ k, i.table[k] = none ∧ Intake.take s i o = i.create s o k) ∨
    (∃ k r, i.table[k] = some r ∧ r.life = .tentative ∧ i.isTaken k = false ∧
      Intake.take s i o = { i.create s o k with anchorGone := i.anchorGone || s.tracker.anchor == some k }) ∨
    Intake.take s i o = { i with dropped := i.dropped + 1 } := by
  unfold take
  split
  case _ k chosen =>
    obtain ⟨n, found⟩ := candidate_of_choose chosen
    obtain ⟨r, held, -, -, -, kind, free, -⟩ := (i.candidate_iff s o k n).mp found
    refine .inl ⟨k, r, held, (i.isTaken_eq_false k).mpr free, kind, ?_⟩
    rw [held]
  case _ =>
    split
    case _ k empty => exact .inr (.inl ⟨k, of_empty empty, rfl⟩)
    case _ =>
      split
      case _ k out =>
        obtain ⟨r, held, life, free⟩ := of_evictee out
        exact .inr (.inr (.inl ⟨k, r, held, life, free, rfl⟩))
      case _ => exact .inr (.inr (.inr rfl))

/-- What charging one slot does: nothing, a miss that leaves the record, or one that removes it. -/
theorem charge_cases (s : State) (v : Survey) (i : Intake) (k : Slot) :
    Intake.charge s v i k = i ∨ ∃ r, i.table[k] = some r ∧
      ((∃ q, r.missed s.params = some q ∧ Intake.charge s v i k =
          { i with table := i.table.set k (some q), marks := i.marks.join (changeMarks k r q) }) ∨
        (r.missed s.params = none ∧ Intake.charge s v i k =
          { i with
            table := i.table.set k none, marks := i.marks.join (.both k)
            anchorGone := i.anchorGone || s.tracker.anchor == some k })) := by
  unfold charge
  cases held : i.table[k] with
  | none => exact .inl rfl
  | some r =>
    dsimp only
    split
    · refine .inr ⟨r, rfl, ?_⟩
      cases missed : r.missed s.params with
      | none => exact .inr ⟨rfl, rfl⟩
      | some q => exact .inl ⟨q, rfl, rfl⟩
    · exact .inl rfl

/-- What the intake keeps of a survey is kept by each observation taken and each slot charged. -/
theorem intake_induction {P : Intake → Prop} (s : State) (v : Survey) (start : P ⟨s.table, .none, [], 0, false⟩)
    (take : ∀ i, ∀ o ∈ observations s.params v, P i → P (Intake.take s i o)) (charge : ∀ i k, P i → P (Intake.charge s v i k)) :
    P (intake s v) :=
  List.foldlRecOn (motive := P) _ _
    (List.foldlRecOn (motive := P) _ _ start fun i h o mem => take i o mem h) fun i h k _ => charge i k h

end Intake

/-- The records that an intake holds are within Table 3-1. -/
def Intake.RecordsOk (i : Intake) : Prop := ∀ (k : Slot) (r : Interferer), i.table[k] = some r → r.Ok

theorem recordsOk_set {table : Vector (Option Interferer) 32} (ok : ∀ (j : Slot) (q : Interferer), table[j] = some q → q.Ok) (k : Slot)
    {r : Option Interferer} (record : ∀ q, r = some q → q.Ok) (j : Slot) (q : Interferer) (h : (table.set k r)[j] = some q) : q.Ok := by
  rw [slot_set] at h
  split at h
  · exact record q h
  · exact ok j q h

theorem intake_recordsOk {s : State} (tracker : s.tracker.Ok) (table : s.TableOk) {v : Survey} (valid : v.valid = true) :
    (intake s v).RecordsOk := by
  refine Intake.intake_induction s v table (fun i o mem ok => ?_) fun i k ok => ?_
  · have observed := observations_ok s.params valid o mem
    have new : ∀ q, some (o.record s.tracker) = some q → q.Ok := fun q h => by cases h; exact record_ok tracker observed
    obtain ⟨k, r, held, -, kind, eq⟩ | ⟨k, -, eq⟩ | ⟨k, r, -, -, -, eq⟩ | eq := Intake.take_cases s i o <;> rw [eq]
    · exact recordsOk_set ok k fun q h => by cases h; exact matched_ok tracker observed kind (ok k r held)
    · exact recordsOk_set ok k new
    · exact recordsOk_set ok k new
    · exact ok
  · obtain eq | ⟨r, held, ⟨q, missed, eq⟩ | ⟨-, eq⟩⟩ := Intake.charge_cases s v i k <;> rw [eq]
    · exact ok
    · exact recordsOk_set ok k fun q' h => by cases h; exact missed_ok missed (ok k r held)
    · exact recordsOk_set ok k nofun

/-- During a survey the anchor's slot holds a CADENCED record unless the record has left the table, and records have phases only
while the tracker is predicting. -/
structure Intake.CadenceOk (s : State) (i : Intake) : Prop where
  gone : i.anchorGone = true → s.tracker.anchor ≠ none
  anchor : i.anchorGone = false → ∀ k, s.tracker.anchor = some k → (i.table[k]).any (·.isCadenced) = true
  phase : s.tracker.predicting = false → ∀ (k : Slot) (r : Interferer), i.table[k] = some r → r.phase = none

/-- The anchor's slot still holds a CADENCED record after a slot is set, unless that slot was the anchor's and lost it. -/
theorem anchored_set {table : Vector (Option Interferer) 32} {j k : Slot} {r : Option Interferer}
    (held : (table[j]).any (·.isCadenced) = true) (new : j = k → r.any (·.isCadenced) = true) :
    ((table.set k r)[j]).any (·.isCadenced) = true := by
  rw [slot_set]
  split
  · exact new ‹_›
  · exact held

theorem phases_set {table : Vector (Option Interferer) 32} {r : Option Interferer}
    (none : ∀ (j : Slot) (q : Interferer), table[j] = some q → q.phase = Option.none) (k : Slot)
    (new : ∀ q, r = some q → q.phase = Option.none) (j : Slot) (q : Interferer) (h : (table.set k r)[j] = some q) :
    q.phase = Option.none := by
  rw [slot_set] at h
  split at h
  · exact new q h
  · exact none j q h

theorem take_cadenceOk {s : State} {i : Intake} (ok : i.CadenceOk s) (o : Observation) : (Intake.take s i o).CadenceOk s := by
  have blank (off : s.tracker.predicting = false) (q : Interferer) (h : some (o.record s.tracker) = some q) : q.phase = none := by
    cases h; exact record_phase off
  obtain ⟨k, r, held, -, -, eq⟩ | ⟨k, empty, eq⟩ | ⟨k, r, -, -, -, eq⟩ | eq := Intake.take_cases s i o <;> rw [eq]
  · refine ⟨ok.gone, fun stays j anchor => anchored_set (ok.anchor stays j anchor) fun same => ?_, fun off =>
      phases_set (ok.phase off) k fun q h => ?_⟩
    · have cadenced := ok.anchor stays j anchor
      rw [same, held] at cadenced
      simpa [matched_isCadenced] using cadenced
    · cases h; exact matched_phase off (ok.phase off k r held)
  · refine ⟨ok.gone, fun stays j anchor => anchored_set (ok.anchor stays j anchor) fun same => ?_, fun off =>
      phases_set (ok.phase off) k (blank off)⟩
    have cadenced := ok.anchor stays j anchor
    rw [same, empty] at cadenced
    cases cadenced
  · refine ⟨fun gone => ?_, fun stays j anchor => ?_, fun off => phases_set (ok.phase off) k (blank off)⟩
    · rcases Bool.or_eq_true_iff.mp gone with gone | now
      · exact ok.gone gone
      · simp [eq_of_beq now]
    · obtain ⟨stays, other⟩ := Bool.or_eq_false_iff.mp stays
      refine anchored_set (ok.anchor stays j anchor) fun same => ?_
      rw [anchor, same] at other
      simp at other
  · exact ⟨ok.gone, ok.anchor, ok.phase⟩

theorem charge_cadenceOk {s : State} {i : Intake} (ok : i.CadenceOk s) (v : Survey) (k : Slot) :
    (Intake.charge s v i k).CadenceOk s := by
  obtain eq | ⟨r, held, ⟨q, missed, eq⟩ | ⟨-, eq⟩⟩ := Intake.charge_cases s v i k <;> rw [eq]
  · exact ok
  · refine ⟨ok.gone, fun stays j anchor => anchored_set (ok.anchor stays j anchor) fun same => ?_, fun off =>
      phases_set (ok.phase off) k fun q' h => ?_⟩
    · have cadenced := ok.anchor stays j anchor
      rw [same, held] at cadenced
      simpa [missed_isCadenced missed] using cadenced
    · cases h
      rw [missed_phase missed]
      exact ok.phase off k r held
  · refine ⟨fun gone => ?_, fun stays j anchor => ?_, fun off => phases_set (ok.phase off) k nofun⟩
    · rcases Bool.or_eq_true_iff.mp gone with gone | now
      · exact ok.gone gone
      · simp [eq_of_beq now]
    · obtain ⟨stays, other⟩ := Bool.or_eq_false_iff.mp stays
      refine anchored_set (ok.anchor stays j anchor) fun same => ?_
      rw [anchor, same] at other
      simp at other

theorem intake_cadenceOk {s : State} (ok : s.CadenceOk) (v : Survey) : (intake s v).CadenceOk s :=
  Intake.intake_induction s v ⟨nofun, fun _ => ok.anchor, ok.phase⟩ (fun _ o _ h => take_cadenceOk h o) fun _ k h =>
    charge_cadenceOk h v k

/-! ## Claims (R26, R27, R31) -/

namespace State

variable (s : State)

/-- The state in the middle of a claim that may have taken the anchor's record out of the table. -/
structure ClaimOk (anchorGone : Bool) : Prop where
  gone : anchorGone = true → s.tracker.anchor ≠ none
  anchor : anchorGone = false → ∀ k, s.tracker.anchor = some k → (s.table[k]).any (·.isCadenced) = true
  phase : s.tracker.predicting = false → ∀ (k : Slot) (r : Interferer), s.table[k] = some r → r.phase = none

variable {s}

theorem CadenceOk.claim (ok : s.CadenceOk) : s.ClaimOk false := ⟨nofun, fun _ => ok.anchor, ok.phase⟩

theorem CadenceOk.of_eq {t : State} (ok : s.CadenceOk) (tracker : t.tracker = s.tracker) (table : t.table = s.table) : t.CadenceOk :=
  ⟨by rw [tracker, table]; exact ok.anchor, by rw [tracker, table]; exact ok.phase⟩

theorem removePhases_phase (k : Slot) {r : Interferer} (h : s.removePhases.table[k] = some r) : r.phase = none := by
  rw [s.removePhases_table] at h
  obtain ⟨q, -, rfl⟩ := Option.map_eq_some_iff.mp h
  exact phase_withoutPhase q

theorem removePhases_cadenced (k : Slot) :
    (s.removePhases.table[k]).any (·.isCadenced) = (s.table[k]).any (·.isCadenced) := by
  rw [s.removePhases_table]
  cases s.table[k] with
  | none => rfl
  | some r => exact isCadenced_withoutPhase r

variable (s)

theorem enterFree_cadenceOk : s.enterFree.1.CadenceOk where
  anchor k h := by rw [s.enterFree_tracker] at h; cases h
  phase _ k r h := by
    rw [s.enterFree_table] at h
    exact removePhases_phase k h

theorem lowestCadenced_cadenced {k : Slot} (h : s.lowestCadenced = some k) : (s.table[k]).any (·.isCadenced) = true := by
  unfold lowestCadenced at h
  simpa using List.find?_some (p := fun k : Slot => Option.any (·.isCadenced) (s.table[k])) h

theorem anchorNotice_cadenceOk (phase : s.tracker.predicting = false → ∀ (k : Slot) (r : Interferer), s.table[k] = some r → r.phase = none) :
    s.anchorNotice.1.CadenceOk := by
  unfold anchorNotice
  split
  case _ k found =>
    refine ⟨fun j h => ?_, fun off => phase off⟩
    rw [setTracker_tracker, Option.some.injEq] at h
    subst h
    exact s.lowestCadenced_cadenced found
  case _ => exact s.enterFree_cadenceOk

theorem finishClaim_cadenceOk {gone : Bool} (ok : s.ClaimOk gone) (m : Marks) : (s.finishClaim gone m).CadenceOk := by
  unfold finishClaim
  split
  case isTrue =>
    exact (s.anchorNotice_cadenceOk ok.phase).of_eq (completeClaim_tracker _ _) (completeClaim_table _ _)
  case isFalse stays =>
    rw [Bool.not_eq_true] at stays
    exact CadenceOk.of_eq ⟨ok.anchor stays, ok.phase⟩ (completeClaim_tracker _ _) (completeClaim_table _ _)

theorem enterFree_tableOk (ok : s.TableOk) : s.enterFree.1.TableOk := by
  intro k r h
  rw [s.enterFree_table, s.removePhases_table] at h
  obtain ⟨q, held, rfl⟩ := Option.map_eq_some_iff.mp h
  exact withoutPhase_ok (ok k q held)

theorem TableOk.of_eq {s t : State} (ok : s.TableOk) (table : t.table = s.table) : t.TableOk := by
  intro k r h
  rw [table] at h
  exact ok k r h

theorem finishClaim_tableOk (ok : s.TableOk) (gone : Bool) (m : Marks) : (s.finishClaim gone m).TableOk := by
  unfold finishClaim
  split
  · refine TableOk.of_eq (s := s.anchorNotice.1) ?_ (completeClaim_table _ _)
    unfold anchorNotice
    split
    · exact ok
    · exact s.enterFree_tableOk ok
  · exact ok.of_eq (completeClaim_table _ _)

end State

end Sys2Proof.Machine

/-! What every command does to the tracker and the table together (R13 to R76): the tracker moves within its ranges, the records
stay within Table 3-1, and the anchor and the phases stay as R26, R27, R31 and R45 have them. -/

namespace Sys2Proof.Machine

open Sys2Proof

/-- What a command keeps of the tracker and the table. -/
structure CadenceStep (s t : State) : Prop where
  tracker : TrackerMove s t
  table : s.tracker.Ok → s.TableOk → t.TableOk
  cadence : s.CadenceOk → t.CadenceOk

/-- The parameters, the tracker and the table are unchanged. -/
structure CadenceKept (s t : State) : Prop where
  params : t.params = s.params
  tracker : t.tracker = s.tracker
  table : t.table = s.table

theorem CadenceKept.of_same {w : List Part} {s t : State} (h : ChangesOnly w s t) (params : .params ∉ w) (tracker : .tracker ∉ w)
    (table : .table ∉ w) : CadenceKept s t := ⟨h .params params, h .tracker tracker, h .table table⟩

namespace CadenceStep

variable {s t u : State}

theorem of_kept (kept : CadenceKept s t) : CadenceStep s t :=
  ⟨.of_eq kept.params kept.tracker, fun _ ok => ok.of_eq kept.table, fun ok => ok.of_eq kept.tracker kept.table⟩

theorem refl (s : State) : CadenceStep s s := of_kept ⟨rfl, rfl, rfl⟩

theorem after (kept : CadenceKept s t) (step : CadenceStep t u) : CadenceStep s u :=
  ⟨(TrackerMove.of_eq kept.params kept.tracker).trans step.tracker,
    fun tracker ok => step.table (kept.tracker ▸ tracker) (ok.of_eq kept.table),
    fun ok => step.cadence (ok.of_eq kept.tracker kept.table)⟩

theorem before (step : CadenceStep s t) (kept : CadenceKept t u) : CadenceStep s u :=
  ⟨step.tracker.trans (.of_eq kept.params kept.tracker), fun tracker ok => (step.table tracker ok).of_eq kept.table,
    fun ok => (step.cadence ok).of_eq kept.tracker kept.table⟩

theorem ite {c : Prop} [Decidable c] (yes : c → CadenceStep s t) (no : ¬c → CadenceStep s u) :
    CadenceStep s (if c then t else u) := by
  split
  · exact yes ‹_›
  · exact no ‹_›

/-- A move of the tracker alone that keeps the anchor and does not leave the predicting states. -/
theorem of_tracker (move : TrackerMove s t) (table : t.table = s.table) (anchor : t.tracker.anchor = s.tracker.anchor)
    (predicting : t.tracker.predicting = false → s.tracker.predicting = false) : CadenceStep s t where
  tracker := move
  table _ ok := ok.of_eq table
  cadence ok := ⟨by rw [anchor, table]; exact ok.anchor, fun off => by rw [table]; exact ok.phase (predicting off)⟩

end CadenceStep

/-! ## The tracker's events -/

namespace State

variable (s : State)

theorem startAcquisition_cadenceStep (slot : Slot) (rise : AirTime) (free : s.tracker.state = .free)
    (cadenced : (s.table[slot]).any (·.isCadenced) = true) : CadenceStep s (s.startAcquisition slot rise) := by
  have table : (s.startAcquisition slot rise).table = s.table := notifyCadence_table _
  have tracker : (s.startAcquisition slot rise).tracker.anchor = some slot := by
    unfold startAcquisition
    rw [notifyCadence_tracker, setTracker_tracker]
  refine ⟨s.startAcquisition_moves slot rise free, fun _ ok => ok.of_eq table, fun ok => ⟨fun k h => ?_, fun _ => ?_⟩⟩
  · rw [tracker, Option.some.injEq] at h
    rw [table, ← h]
    exact cadenced
  · rw [table]
    exact ok.phase (by simp [Tracker.predicting, free])

theorem riseWithoutCandidate_anchor (reference rise : AirTime) :
    (s.riseWithoutCandidate reference rise).tracker.anchor = s.tracker.anchor := by
  unfold riseWithoutCandidate
  dsimp only
  split
  · rfl
  · split <;> rfl

theorem testLock_anchor (c : Nat) (rise : AirTime) : (s.testLock c rise).tracker.anchor = s.tracker.anchor := by
  unfold testLock
  split
  · rw [notifyCadence_tracker]; rfl
  · rfl

theorem riseAcquiring_anchor (reference rise : AirTime) : (s.riseAcquiring reference rise).tracker.anchor = s.tracker.anchor := by
  unfold riseAcquiring
  split
  · exact s.riseWithoutCandidate_anchor reference rise
  · split
    · unfold riseWithCandidate
      dsimp only
      split
      · rfl
      · split
        · rw [testLock_anchor]; rfl
        · split <;> rfl
    · rw [riseWithoutCandidate_anchor]; rfl

theorem refineLock_cadenceStep (rise : AirTime) (e : Int) (predicts : s.tracker.predicting = true) :
    CadenceStep s (s.refineLock rise e) :=
  .of_tracker (s.refineLock_moves rise e predicts) rfl rfl nofun

theorem loseLock_table (rise : AirTime) : (s.loseLock rise).table = s.removePhases.table := by
  unfold loseLock
  rw [completeClaim_table, notifyCadence_table, setTracker_table]

theorem removePhases_tableOk (ok : s.TableOk) {t : State} (table : t.table = s.removePhases.table) : t.TableOk := by
  intro k r h
  rw [table, s.removePhases_table] at h
  obtain ⟨q, held, rfl⟩ := Option.map_eq_some_iff.mp h
  exact withoutPhase_ok (ok k q held)

theorem loseLock_cadenceStep (rise : AirTime) (anchor : s.tracker.anchor ≠ none) : CadenceStep s (s.loseLock rise) where
  tracker := s.loseLock_moves rise anchor
  table _ ok := s.removePhases_tableOk ok (s.loseLock_table rise)
  cadence ok := by
    refine ⟨fun k h => ?_, fun _ k r h => ?_⟩
    · rw [s.loseLock_tracker] at h
      rw [s.loseLock_table, removePhases_cadenced]
      exact ok.anchor k h
    · rw [s.loseLock_table] at h
      exact removePhases_phase k h

theorem riseLocked_cadenceStep (reference rise : AirTime) (locked : s.tracker.state = .locked) (anchor : s.tracker.anchor ≠ none) :
    CadenceStep s (s.riseLocked reference rise) := by
  unfold riseLocked
  dsimp only
  refine .ite (fun _ => s.refineLock_cadenceStep rise _ (by simp [Tracker.predicting, locked])) fun _ => .ite (fun few => ?_) fun _ =>
    s.loseLock_cadenceStep rise anchor
  exact .of_tracker (s.lockedOutlier_moves locked few) rfl rfl id

theorem riseHoldover_cadenceStep (reference rise : AirTime) (holdover : s.tracker.state = .holdover) :
    CadenceStep s (s.riseHoldover reference rise) := by
  refine .ite (fun _ => ?_) fun _ => .refl s
  exact (s.refineLock_cadenceStep rise _ (by simp [Tracker.predicting, holdover])).before
    (.of_same (notifyCadence_changesOnly _) (by decide) (by decide) (by decide))

theorem takeRise_cadenceStep (slot : Slot) (rise : AirTime) : CadenceStep s (s.takeRise slot rise) := by
  have anchored {c : Slot} (h : s.tracker.anchor = some c) : s.tracker.anchor ≠ none := by simp [h]
  unfold takeRise
  split
  case _ free => exact .ite (fun cadenced => s.startAcquisition_cadenceStep slot rise free cadenced) fun _ => .refl s
  case _ state =>
    split
    · refine .ite (fun anchor => ?_) fun _ => .refl s
      exact .of_tracker (s.riseAcquiring_moves _ rise state (anchored anchor))
        (s.riseAcquiring_changesOnly _ rise .table (by decide)) (s.riseAcquiring_anchor _ rise) fun _ => by
          simp [Tracker.predicting, state]
    · exact .refl s
  case _ state =>
    split
    · exact .ite (fun anchor => s.riseLocked_cadenceStep _ rise state (anchored anchor)) fun _ => .refl s
    · exact .refl s
  case _ state =>
    split
    · exact .ite (fun _ => s.riseHoldover_cadenceStep _ rise state) fun _ => .refl s
    · exact .refl s

theorem takeMiss_cadenceStep (slot : Slot) : CadenceStep s (s.takeMiss slot) := by
  refine .of_tracker (s.takeMiss_moves slot) (s.takeMiss_changesOnly slot .table (by decide)) ?_ ?_ <;> unfold takeMiss <;> split
  case _ => rfl
  case _ => rfl
  case _ => rfl
  case _ =>
    split
    · split
      · rfl
      · rw [notifyCadence_tracker, setTracker_tracker]
    · rfl
  case _ => exact id
  case _ => exact id
  case _ => exact id
  case _ locked =>
    split
    · split
      · exact id
      · rw [notifyCadence_tracker, setTracker_tracker]; exact nofun
    · exact id

/-- Entry to FREE, of whatever tracker and table it starts from (R27). -/
theorem expireHoldover_keeps : (s.TableOk → s.expireHoldover.TableOk) ∧ (s.CadenceOk → s.expireHoldover.CadenceOk) := by
  unfold expireHoldover
  split
  · dsimp only
    exact ⟨fun ok => (s.enterFree_tableOk ok).of_eq (completeClaim_table _ _), fun _ =>
      s.enterFree_cadenceOk.of_eq (completeClaim_tracker _ _) (completeClaim_table _ _)⟩
  · exact ⟨id, id⟩

theorem takePrompt_keeps (x : Prompt) :
    TrackerMove s (s.takePrompt x) ∧ (s.TableOk → (s.takePrompt x).TableOk) ∧ (s.CadenceOk → (s.takePrompt x).CadenceOk) := by
  have kept {w : List Part} (h : ChangesOnly w s (s.takePrompt x)) (params : .params ∉ w) (tracker : .tracker ∉ w)
      (table : .table ∉ w) :
      TrackerMove s (s.takePrompt x) ∧ (s.TableOk → (s.takePrompt x).TableOk) ∧ (s.CadenceOk → (s.takePrompt x).CadenceOk) :=
    ⟨.of_same h params tracker, fun ok => ok.of_eq (h .table table), fun ok => ok.of_eq (h .tracker tracker) (h .table table)⟩
  cases x with
  | holdoverExpiry => exact ⟨s.expireHoldover_moves, s.expireHoldover_keeps⟩
  | grantExpiry l id => exact kept (s.expireGrant_changesOnly l id) (by decide) (by decide) (by decide)
  | switchTimeout l => exact kept (s.expireSwitch_changesOnly l) (by decide) (by decide) (by decide)
  | settleTimerExpiry l => exact kept (s.expireSettle_changesOnly l) (by decide) (by decide) (by decide)
  | outcome l =>
    exact kept (w := [.grants, .links, .handed]) (.ite (s.takeOutcome_changesOnly l) (.refl _ s)) (by decide) (by decide) (by decide)

/-! ## The table's claims -/

theorem claim_cadenceStep {gone : Bool} {u : State} (kept : u.params = s.params ∧ u.tracker = s.tracker)
    (table : s.tracker.Ok → s.TableOk → u.TableOk) (anchor : gone = true → s.tracker.anchor ≠ none)
    (claim : s.CadenceOk → u.ClaimOk gone) (m : Marks) : CadenceStep s (u.finishClaim gone m) where
  tracker := (TrackerMove.of_eq kept.1 kept.2).trans (u.finishClaim_moves (by rw [kept.2]; exact anchor) m)
  table tracker ok := u.finishClaim_tableOk (table tracker ok) gone m
  cadence ok := u.finishClaim_cadenceOk (claim ok) m

/-- The miss account of a survey drops the anchor only when there is one. -/
theorem anchor_of_anchorGone (v : Survey) : (intake s v).anchorGone = true → s.tracker.anchor ≠ none := by
  refine Intake.intake_induction s v (P := fun i => i.anchorGone = true → s.tracker.anchor ≠ none) nofun
    (fun i o _ h => ?_) fun i k h => ?_
  all_goals
    have left (k : Slot) : (i.anchorGone || s.tracker.anchor == some k) = true → s.tracker.anchor ≠ none := fun gone => by
      rcases Bool.or_eq_true_iff.mp gone with gone | now
      · exact h gone
      · simp [eq_of_beq now]
  · obtain ⟨k, r, -, -, -, eq⟩ | ⟨k, -, eq⟩ | ⟨k, r, -, -, -, eq⟩ | eq := Intake.take_cases s i o <;> rw [eq]
    · exact h
    · exact h
    · exact left k
    · exact h
  · obtain eq | ⟨r, -, ⟨q, -, eq⟩ | ⟨-, eq⟩⟩ := Intake.charge_cases s v i k <;> rw [eq]
    · exact h
    · exact h
    · exact left k

/-- The claim of an intake (stages 3 to 5 of R61). -/
theorem surveyClaim_cadenceStep {i : Intake} (records : s.tracker.Ok → s.TableOk → i.RecordsOk)
    (gone : i.anchorGone = true → s.tracker.anchor ≠ none) (cadence : s.CadenceOk → i.CadenceOk s) :
    CadenceStep s (s.surveyClaim i) := by
  unfold surveyClaim
  have kept : CadenceKept { s with table := i.table } (({ s with table := i.table } : State).requestFull i.dropped) :=
    .of_same (requestFull_changesOnly _ _) (by decide) (by decide) (by decide)
  generalize ({ s with table := i.table } : State).requestFull i.dropped = u at kept
  obtain ⟨params, tracker, table⟩ := kept
  refine s.claim_cadenceStep ⟨params, tracker⟩ (fun tracker ok k r h => ?_) gone (fun ok => ?_) _
  · rw [table] at h
    exact records tracker ok k r h
  · obtain ⟨gone, anchor, phase⟩ := cadence ok
    constructor <;> simpa only [tracker, table]

theorem surveyOf?_valid {l : Lane} {body : List Byte} {v : Survey} (h : s.surveyOf? l body = some v) : v.valid = true := by
  unfold surveyOf? at h
  split at h
  · split at h
    · cases h
      exact (Bool.and_eq_true_iff.mp ‹_›).1
    · cases h
  · cases h

theorem acceptSurvey_cadenceStep {v : Survey} (valid : v.valid = true) : CadenceStep s (s.acceptSurvey v) := by
  unfold acceptSurvey
  dsimp only
  have covered : CadenceKept s { s with coverage := coverageAfter v s.coverage } := ⟨rfl, rfl, rfl⟩
  refine .ite (fun _ => .of_kept covered) fun _ => .after covered ?_
  generalize ({ s with coverage := coverageAfter v s.coverage } : State) = u
  refine (u.surveyClaim_cadenceStep (fun tracker ok => intake_recordsOk tracker ok valid) (u.anchor_of_anchorGone v) fun ok =>
    intake_cadenceOk ok v).before ?_
  unfold handReport
  split
  · exact .of_same (hand_changesOnly _ _ _) (by decide) (by decide) (by decide)
  · exact ⟨rfl, rfl, rfl⟩

theorem takeSurvey_cadenceStep (l : Lane) : CadenceStep s (s.takeSurvey l) := by
  have emptied : CadenceKept s (s.emptyHolder l) := ⟨rfl, rfl, rfl⟩
  unfold takeSurvey
  dsimp only
  split
  · exact .of_kept emptied
  · split
    case _ found => exact .after emptied (acceptSurvey_cadenceStep _ (surveyOf?_valid _ found))
    case _ =>
      exact .after emptied (.of_kept (.of_same (sendOut_changesOnly _ _ _ _) (by decide) (by decide) (by decide)))

theorem completeClaim_kept (m : Marks) : CadenceKept s (s.completeClaim m) :=
  .of_same (s.completeClaim_changesOnly m) (by decide) (by decide) (by decide)

theorem setSlot_tableOk (ok : s.TableOk) (k : Slot) {r : Option Interferer} (record : ∀ q, r = some q → q.Ok) :
    (s.setSlot k r).TableOk := fun j q h => recordsOk_set ok k record j q h

/-- A host's claim that gives a slot a record. -/
theorem setSlot_cadenceStep (k : Slot) (r : Interferer) (m : Marks) (record : s.tracker.Ok → s.TableOk → r.Ok)
    (kind : s.tracker.anchor = some k → (s.table[k]).any (·.isCadenced) = true → r.isCadenced = true)
    (phase : s.tracker.predicting = false → (∀ q, s.table[k] = some q → q.phase = none) → r.phase = none) :
    CadenceStep s ((s.setSlot k (some r)).completeClaim m) := by
  refine CadenceStep.before (t := s.setSlot k (some r)) ?_ (completeClaim_kept _ m)
  refine ⟨.of_eq rfl rfl, fun tracker ok => s.setSlot_tableOk ok k fun q h => by cases h; exact record tracker ok, fun ok => ⟨?_, ?_⟩⟩
  · intro j anchor
    refine anchored_set (ok.anchor j anchor) fun same => ?_
    subst same
    exact kind anchor (ok.anchor j anchor)
  · intro off
    refine phases_set (ok.phase off) k fun q h => ?_
    cases h
    exact phase off (ok.phase off k)

theorem claimRemoval_cadenceStep (k : Slot) : CadenceStep s (s.claimRemoval k) := by
  have gone (h : (s.tracker.anchor == some k) = true) : s.tracker.anchor ≠ none := by simp [eq_of_beq h]
  refine s.claim_cadenceStep (u := s.setSlot k none) ⟨rfl, rfl⟩ (fun _ ok => s.setSlot_tableOk ok k nofun) gone (fun ok => ?_) _
  refine ⟨gone, fun stays j anchor => anchored_set (ok.anchor j anchor) fun same => ?_, fun off => phases_set (ok.phase off) k nofun⟩
  rw [show s.tracker.anchor = some j from anchor, same] at stays
  simp at stays

end State

end Sys2Proof.Machine

/-! The records that the host commands write (R47 to R52), and what every command keeps of the tracker and the table. -/

namespace Sys2Proof.Machine

open Sys2Proof

section Checks

variable {t : Tracker} {r q : Interferer}

theorem spanIn?_iff {band : Band} {first count : Byte} {x : Span} :
    spanIn? band first count = some x ↔ x = ⟨first.toNat, count.toNat⟩ ∧ x.isInterfererSpan = true ∧ x.band = band := by
  unfold spanIn?
  dsimp only
  rw [Option.ite_none_right_eq_some, Bool.and_eq_true, beq_iff_eq, Option.some.injEq]
  exact ⟨fun ⟨ok, eq⟩ => ⟨eq.symm, eq ▸ ok⟩, fun ⟨eq, ok⟩ => ⟨eq ▸ ok, eq.symm⟩⟩

theorem onDurationOk_bounds (ok : t.Ok) {x : Half} (h : onDurationOk t.period x = true) : 500 ≤ x.toNat ∧ x.toNat ≤ 21500 := by
  have high := ok.periodHigh
  simp only [onDurationOk, Bool.and_eq_true, decide_eq_true_eq] at h
  omega

theorem phaseOk_bound (ok : t.Ok) {x : Half} (h : phaseOk t.period x = true) : x.toNat ≤ 21999 := by
  have high := ok.periodHigh
  simp only [phaseOk, decide_eq_true_eq] at h
  omega

/-- The emission of a PLACE (R47, R48). -/
theorem placedEmission?_ok {a : PlaceArgs} {e : Emission} (h : placedEmission? t a = some e) :
    (t.Ok → e.Ok) ∧ (t.predicting = false → e.phase? = none) ∧ (e.onDuration.isSome = true → a.kind = 0) := by
  unfold placedEmission? at h
  split at h
  case isTrue kind =>
    split at h
    case _ =>
      split at h
      case isTrue valid =>
        cases h
        obtain ⟨on, phase⟩ := Bool.and_eq_true_iff.mp valid
        refine ⟨fun ok => .cadenced (onDurationOk_bounds ok on) fun n found => ?_, fun off => by simp [Emission.phase?, off], fun _ => kind⟩
        split at found
        · obtain ⟨x, given, rfl⟩ := Option.map_eq_some_iff.mp found
          rw [given] at phase
          exact phaseOk_bound ok phase
        · cases found
      case isFalse => cases h
    case _ => cases h
  case isFalse =>
    split at h
    · cases h
    · split at h
      case _ d _ =>
        split at h
        case isTrue valid =>
          have low : d.toNat ≤ 64 := by simpa [dutyOk] using valid
          split at h
          · cases h; exact ⟨fun _ => .steady low, fun _ => rfl, nofun⟩
          · split at h
            · cases h; exact ⟨fun _ => .sporadic low, fun _ => rfl, nofun⟩
            · cases h
        case isFalse => cases h
      case _ => cases h

theorem placed?_ok {a : PlaceArgs} (h : placed? t a = some r) : (t.Ok → r.Ok) ∧ (t.predicting = false → r.phase = none) := by
  unfold placed? at h
  split at h
  case _ b e _ emission =>
    obtain ⟨within, phase, kind⟩ := placedEmission?_ok emission
    split at h
    case _ span found =>
      obtain ⟨-, valid, band⟩ := spanIn?_iff.mp found
      split at h
      case isTrue checks =>
        cases h
        obtain ⟨level, low⟩ := Bool.and_eq_true_iff.mp checks
        refine ⟨fun ok => .of_emission (within ok) valid (by simpa [levelOk] using level) (Nat.zero_le _) (Nat.zero_le _) fun cadenced => ?_, phase⟩
        rw [Interferer.isCadenced_eq] at cadenced
        rw [kind cadenced] at low
        exact band.trans (by simpa using low)
      case isFalse => cases h
    case _ => cases h
  case _ => cases h

theorem amendKind?_ok {e e' : Emission} {kind duty : Option Byte} (h : amendKind? e kind duty = some e') :
    (e.Ok → e'.Ok) ∧ e'.phase? = e.phase? ∧ e'.onDuration.isSome = e.onDuration.isSome := by
  have low {d : Nat} (old : d ≤ 64) (given : duty.all dutyOk = true) : (duty.map (·.toNat)).getD d ≤ 64 := by
    cases duty with
    | none => exact old
    | some x => simpa [dutyOk] using given
  unfold amendKind? at h
  split at h
  case _ => split at h <;> cases h; exact ⟨id, rfl, rfl⟩
  all_goals
    split at h
    case isFalse => cases h
    case isTrue given =>
      have small {e : Emission} {d : Nat} (duty : e.duty = some d) (old : e.Ok) := low (old.duty d duty) given
      dsimp only at h
      split at h
      · cases h
        first
          | exact ⟨fun old => .steady (small rfl old), rfl, rfl⟩
          | exact ⟨fun old => .sporadic (small rfl old), rfl, rfl⟩
      · split at h
        · cases h; exact ⟨fun old => .steady (small rfl old), rfl, rfl⟩
        · split at h
          · cases h; exact ⟨fun old => .sporadic (small rfl old), rfl, rfl⟩
          · cases h

theorem amendPhase?_ok {old new : Option Nat} {g : Given Half} (h : amendPhase? t old g = some new) :
    (t.Ok → (∀ n, old = some n → n ≤ 21999) → ∀ n, new = some n → n ≤ 21999) ∧ (t.predicting = false → old = none → new = none) := by
  unfold amendPhase? at h
  split at h
  · cases h; exact ⟨fun _ low => low, fun _ => id⟩
  · split at h
    case isFalse => cases h
    case isTrue valid =>
      cases h
      refine ⟨fun ok _ n found => ?_, fun off _ => by simp [off]⟩
      split at found <;> cases found
      exact phaseOk_bound ok valid
  · cases h; exact ⟨fun _ _ => nofun, fun _ _ => rfl⟩

theorem amendBurst?_ok {e e' : Emission} {on : Option Half} {g : Given Half} (h : amendBurst? t e on g = some e') :
    (t.Ok → e.Ok → e'.Ok) ∧ (t.predicting = false → e.phase? = none → e'.phase? = none) ∧ e'.onDuration.isSome = e.onDuration.isSome := by
  unfold amendBurst? at h
  split at h
  case _ o p =>
    split at h
    case isFalse => cases h
    case isTrue given =>
      obtain ⟨p', found, rfl⟩ := Option.map_eq_some_iff.mp h
      obtain ⟨bound, unphased⟩ := amendPhase?_ok found
      refine ⟨fun ok old => .cadenced ?_ (bound ok fun n eq => old.phase o n (by rw [eq])), unphased, rfl⟩
      cases on with
      | none => exact old.onDuration o rfl
      | some x => exact onDurationOk_bounds ok given
  all_goals
    split at h <;> cases h
    exact ⟨fun _ => id, fun _ => id, rfl⟩

theorem amendSpan?_ok {old new : Span} {span : Option (Byte × Byte)} (h : amendSpan? old span = some new) :
    (old.isInterfererSpan = true → new.isInterfererSpan = true) ∧ new.band = old.band := by
  unfold amendSpan? at h
  split at h
  · cases h; exact ⟨id, rfl⟩
  · obtain ⟨-, valid, band⟩ := spanIn?_iff.mp h
    exact ⟨fun _ => valid, band⟩

theorem amended?_ok {a : InterfererAmendArgs} (h : amended? t r a = some q) :
    (t.Ok → r.Ok → q.Ok) ∧ (t.predicting = false → r.phase = none → q.phase = none) ∧ q.isCadenced = r.isCadenced := by
  unfold amended? at h
  split at h
  case _ span e spanned emitted =>
    obtain ⟨e', kinded, burst⟩ := Option.bind_eq_some_iff.mp emitted
    obtain ⟨ok', phase', kind'⟩ := amendKind?_ok kinded
    obtain ⟨ok'', phase'', kind''⟩ := amendBurst?_ok burst
    obtain ⟨valid, band⟩ := amendSpan?_ok spanned
    split at h
    case isTrue given =>
      cases h
      have kind : e.onDuration.isSome = r.emission.onDuration.isSome := kind''.trans kind'
      refine ⟨fun ok old => .of_emission (ok'' ok (ok' old.emission)) (valid old.span) ?_ old.confidence old.misses
          fun cadenced => band.trans (old.cadencedBand ?_),
        fun off none => phase'' off (phase'.trans none), ?_⟩
      · dsimp only
        cases level : a.level with
        | none => exact old.level
        | some x => simpa [level, levelOk] using given
      · rw [Interferer.isCadenced_eq] at cadenced ⊢
        exact kind ▸ cadenced
      · rw [Interferer.isCadenced_eq, Interferer.isCadenced_eq]
        exact kind
    case isFalse => cases h
  case _ => cases h

end Checks

/-! ## The commands -/

theorem transact_cadenceStep {c : Instr} {s t : State} {owner : State → State × Response} (h : transact c s owner = .next t)
    (effect : ∀ u, CadenceStep u (owner u).1) : CadenceStep s t := by
  obtain ⟨n, rfl⟩ | ⟨u, found, rfl⟩ := transact_cases h
  · exact .of_kept (.of_same (s.carryNotReady_changesOnly n) (by decide) (by decide) (by decide))
  · exact .after (.of_same found (by decide) (by decide) (by decide))
      ((effect u).before (.of_same (State.answering_changesOnly _ _ _) (by decide) (by decide) (by decide)))

theorem withRecord_cadenceStep {slot : Byte} {s : State} {f : Slot → Interferer → State × Response}
    (h : ∀ k r, s.table[k] = some r → CadenceStep s (f k r).1) : CadenceStep s (withRecord slot s f).1 := by
  unfold withRecord
  split
  · exact .refl s
  · split
    · exact .refl s
    · exact h _ _ ‹_›

theorem emptySlot_none {s : State} {k : Slot} (h : s.emptySlot = some k) : s.table[k] = none := by
  unfold State.emptySlot at h
  simpa using List.find?_some (p := fun k : Slot => (s.table[k]).isNone) h

theorem placeOwner_cadenceStep (a : PlaceArgs) (s : State) : CadenceStep s (placeOwner a s).1 := by
  unfold placeOwner
  split
  · exact .refl s
  · split
    · exact .refl s
    case _ r placed _ k free =>
      obtain ⟨within, unphased⟩ := placed?_ok placed
      refine s.setSlot_cadenceStep k r _ (fun tracker _ => within tracker) (fun _ held => ?_) fun off _ => unphased off
      rw [emptySlot_none free] at held
      cases held

theorem claimChange_cadenceStep {s : State} {k : Slot} {old new : Interferer} (held : s.table[k] = some old)
    (within : s.tracker.Ok → old.Ok → new.Ok) (unphased : s.tracker.predicting = false → old.phase = none → new.phase = none)
    (kind : new.isCadenced = old.isCadenced) : CadenceStep s (s.claimChange k old new) :=
  s.setSlot_cadenceStep k new _ (fun tracker ok => within tracker (ok k old held))
    (fun _ cadenced => kind.trans (by simpa [held] using cadenced)) fun off blank => unphased off (blank old held)

theorem interfererAmendOwner_cadenceStep (a : InterfererAmendArgs) (s : State) : CadenceStep s (interfererAmendOwner a s).1 := by
  refine withRecord_cadenceStep fun k r held => ?_
  split
  · split
    · exact .refl s
    case _ q amended =>
      obtain ⟨within, unphased, kind⟩ := amended?_ok amended
      exact claimChange_cadenceStep held within unphased kind
  · exact .refl s

theorem pinOwner_cadenceStep (slot : Byte) (s : State) : CadenceStep s (pinOwner slot s).1 := by
  refine withRecord_cadenceStep fun k r held => ?_
  split
  · exact .refl s
  · exact claimChange_cadenceStep held (fun _ ok => ok.moved (Nat.zero_le _) .pinned) (fun _ => id) rfl

theorem unpinOwner_cadenceStep (slot : Byte) (s : State) : CadenceStep s (unpinOwner slot s).1 := by
  refine withRecord_cadenceStep fun k r held => ?_
  split
  · exact claimChange_cadenceStep held (fun _ ok => ok.moved (Nat.zero_le _) .confirmed) (fun _ => id) rfl
  · exact .refl s

theorem retireOwner_cadenceStep (slot : Byte) (s : State) : CadenceStep s (retireOwner slot s).1 :=
  withRecord_cadenceStep fun k _ _ => s.claimRemoval_cadenceStep k

theorem reset_tracker_within : Tracker.reset.Ok := by constructor <;> decide

/-- The tracker's and the table's own resets (R174). -/
theorem takeReset_cadenceStep (s : State) (b : Block) (own : b = .ctk ∨ b = .ift) : CadenceStep s (s.takeReset b) := by
  unfold State.takeReset
  refine .ite (fun _ => ?_) fun _ => .refl s
  have finished (u : State) : CadenceKept u u.finishSoftReset := by
    unfold State.finishSoftReset
    split <;> exact ⟨rfl, rfl, rfl⟩
  refine CadenceStep.before (t := (s.dropWork b).blockValues b) ?_
    ⟨(finished _).params, (finished _).tracker, (finished _).table⟩
  have dropped : CadenceKept s (s.dropWork b) := ⟨rfl, rfl, rfl⟩
  refine .after dropped ?_
  generalize s.dropWork b = u
  have low (params : u.params.Ok) : 0 < u.params.lockCount := Nat.lt_of_lt_of_le Nat.zero_lt_two params.lockCount.1
  rcases own with rfl | rfl
  · have tracker : (u.blockValues .ctk).tracker = .reset := rfl
    have table : (u.blockValues .ctk).table = u.removePhases.table := u.removePhases.setTracker_table _
    have params : (u.blockValues .ctk).params = u.params := u.blockValues_changesOnly .ctk .params (by decide)
    generalize u.blockValues .ctk = v at tracker table params
    refine ⟨.of_set params tracker fun params _ => ⟨reset_tracker_within, .inr (low params)⟩,
      fun _ ok => u.removePhases_tableOk ok table, fun _ => ⟨fun k h => ?_, fun _ k r h => ?_⟩⟩
    · rw [tracker] at h; cases h
    · rw [table] at h; exact State.removePhases_phase k h
  · have tracker : (u.blockValues .ift).tracker = u.tracker.freed := rfl
    have emptied : (u.blockValues .ift).table = Vector.replicate 32 none := rfl
    have params : (u.blockValues .ift).params = u.params := u.blockValues_changesOnly .ift .params (by decide)
    generalize u.blockValues .ift = v at tracker emptied params
    have table (k : Slot) : v.table[k] = none := by rw [emptied, Fin.getElem_fin, Vector.getElem_replicate]
    refine ⟨.of_set params tracker fun params ok => ⟨Tracker.freed_ok ok, .inr (low params)⟩,
      fun _ _ k r h => ?_, fun _ => ⟨fun k h => ?_, fun _ k r h => ?_⟩⟩
    · rw [table] at h; cases h
    · rw [tracker] at h; cases h
    · rw [table] at h; cases h

/-- Every command but POWER_ON_RESET and SET PARAMETER, of those that touch the tracker or the table. -/
theorem exec_cadenceStep {c : Instr} {s t : State} (h : exec c s = .next t) (touched : .tracker ∈ footprint c ∨ .table ∈ footprint c)
    (running : c ≠ .powerOnReset) : CadenceStep s t := by
  cases c with
  | powerOnReset => exact absurd rfl running
  | tick =>
    have kept : TrackerMove s t ∧ (s.TableOk → t.TableOk) ∧ (s.CadenceOk → t.CadenceOk) := by
      refine event_keeps (P := fun t => TrackerMove s t ∧ (s.TableOk → t.TableOk) ∧ (s.CadenceOk → t.CadenceOk))
        (f := State.toNextTick Config.tickRounds) (show execTick s = _ from h) ⟨.refl s, id, id⟩
        (s.toNextTick_induction (P := fun t => TrackerMove s t ∧ (s.TableOk → t.TableOk) ∧ (s.CadenceOk → t.CadenceOk)) ?_ ?_ _)
      · intro u v moved ⟨tracker, table, cadence⟩
        exact ⟨tracker.trans (.of_same moved (by decide) (by decide)), fun ok => (table ok).of_eq (moved .table (by decide)),
          fun ok => (cadence ok).of_eq (moved .tracker (by decide)) (moved .table (by decide))⟩
      · intro u x ⟨tracker, table, cadence⟩
        obtain ⟨tracker', table', cadence'⟩ := u.takePrompt_keeps x
        exact ⟨tracker.trans tracker', table' ∘ table, cadence' ∘ cadence⟩
    exact ⟨kept.1, fun _ => kept.2.1, kept.2.2⟩
  | softResetBlock b =>
    refine event_keeps (P := CadenceStep s) (show execSoftResetBlock b s = _ from h) (.refl s) fun _ => takeReset_cadenceStep s b ?_
    cases b <;> simp [footprint, resetParts] at touched ⊢
  | survey =>
    refine event_keeps (P := CadenceStep s) (show execSurvey s = _ from h) (.refl s) fun _ => ?_
    split
    · exact s.takeSurvey_cadenceStep _
    · exact .refl s
  | riseReport k rise =>
    refine event_keeps (P := CadenceStep s) (show execRiseReport k rise s = _ from h) (.refl s) fun _ => ?_
    exact .after (t := s.taking (.riseReport k rise)) ⟨rfl, rfl, rfl⟩ (State.takeRise_cadenceStep (s.taking (.riseReport k rise)) k rise)
  | anchorMissReport k =>
    refine event_keeps (P := CadenceStep s) (show execAnchorMissReport k s = _ from h) (.refl s) fun _ => ?_
    exact .after (t := s.taking (.anchorMissReport k)) ⟨rfl, rfl, rfl⟩ (State.takeMiss_cadenceStep (s.taking (.anchorMissReport k)) k)
  | holdoverExpiry =>
    refine event_keeps (P := CadenceStep s) (show execHoldoverExpiry s = _ from h) (.refl s) fun _ => ?_
    exact ⟨s.expireHoldover_moves, fun _ => s.expireHoldover_keeps.1, s.expireHoldover_keeps.2⟩
  | place a => exact transact_cadenceStep (show execPlace a s = _ from h) (placeOwner_cadenceStep a)
  | interfererAmend a => exact transact_cadenceStep (show execInterfererAmend a s = _ from h) (interfererAmendOwner_cadenceStep a)
  | pin slot => exact transact_cadenceStep (show execPin slot s = _ from h) (pinOwner_cadenceStep slot)
  | unpin slot => exact transact_cadenceStep (show execUnpin slot s = _ from h) (unpinOwner_cadenceStep slot)
  | retire slot => exact transact_cadenceStep (show execRetire slot s = _ from h) (retireOwner_cadenceStep slot)
  | _ => simp [footprint, portParts] at touched

end Sys2Proof.Machine

/-! What every command does to the lanes' links, plan states and grants together: a link stays within the bounds of R158 and
R163, and outside a soft reset a lane that is DISABLED holds no outstanding grant (R118, R125). -/

namespace Sys2Proof.Machine

open Sys2Proof

/-- A DISABLED lane holds no outstanding grant. -/
def State.DisabledIdle (s : State) : Prop := ∀ l : Lane, (s.plans.get l).state = .disabled → (s.grants.get l).outstanding = []

/-- What an operation keeps of the lanes. -/
structure LaneStep (s t : State) : Prop where
  resets : t.resets = s.resets
  links : s.LinksOk → t.LinksOk
  idle : s.resets = [] → s.DisabledIdle → t.DisabledIdle

namespace LaneStep

variable {s t u : State}

theorem of_eq (resets : t.resets = s.resets) (links : t.links = s.links) (plans : t.plans = s.plans) (grants : t.grants = s.grants) :
    LaneStep s t :=
  ⟨resets, fun ok l => links ▸ ok l, fun _ idle l => by rw [plans, grants]; exact idle l⟩

theorem of_same {w : List Part} (h : ChangesOnly w s t) (apart : ∀ p ∈ [Part.resets, .links, .plans, .grants], p ∉ w) : LaneStep s t :=
  of_eq (h .resets (apart _ (by simp))) (h .links (apart _ (by simp))) (h .plans (apart _ (by simp))) (h .grants (apart _ (by simp)))

theorem refl (s : State) : LaneStep s s := of_eq rfl rfl rfl rfl

theorem trans (first : LaneStep s t) (second : LaneStep t u) : LaneStep s u :=
  ⟨second.resets.trans first.resets, second.links ∘ first.links,
    fun none idle => second.idle (first.resets.trans none) (first.idle none idle)⟩

theorem ite {c : Prop} [Decidable c] (yes : c → LaneStep s t) (no : ¬c → LaneStep s u) : LaneStep s (if c then t else u) := by
  split
  · exact yes ‹_›
  · exact no ‹_›

end LaneStep

theorem linksOk_set {links : PerLane LinkLane} (ok : ∀ m, (links.get m).Ok) {l : Lane} {k : LinkLane} (new : k.Ok) (m : Lane) :
    ((links.set l k).get m).Ok := by
  rw [PerLane.get_set]
  split
  · exact new
  · exact ok m

namespace State

variable (s : State)

/-! ## The shared operations -/

theorem setLink_laneStep (l : Lane) {k : LinkLane} (h : (s.links.get l).Ok → k.Ok) : LaneStep s (s.setLink l k) :=
  ⟨rfl, fun ok => linksOk_set ok (h (ok l)), fun _ => id⟩

/-- A lane's plan state becomes DISABLED only where it was. -/
theorem setPlan_laneStep (l : Lane) {p : PlanLane} (h : p.state = .disabled → (s.plans.get l).state = .disabled) :
    LaneStep s (s.setPlan l p) := by
  refine ⟨rfl, id, fun _ idle m disabled => ?_⟩
  rw [setPlan_plans, PerLane.get_set] at disabled
  split at disabled
  case isTrue same => exact same ▸ idle l (h disabled)
  case isFalse => exact idle m disabled

/-- A lane gets grants only where it has some or is not DISABLED. -/
theorem setGrant_laneStep (l : Lane) {g : GrantLane}
    (h : (s.plans.get l).state = .disabled → (s.grants.get l).outstanding = [] → g.outstanding = []) : LaneStep s (s.setGrant l g) := by
  refine ⟨rfl, id, fun _ idle m disabled => ?_⟩
  rw [setGrant_grants, PerLane.get_set]
  split
  case isTrue same => subst same; exact h disabled (idle _ disabled)
  case isFalse => exact idle m disabled

theorem hand_laneStep (src : Block) (x : Handed) : LaneStep s (s.hand src x) := .of_same (s.hand_changesOnly src x) (by decide)

theorem request_laneStep (src : Block) (f : Flag) : LaneStep s (s.request src f) := s.hand_laneStep src _

theorem taking_laneStep (x : Handed) : LaneStep s (s.taking x) := .of_eq rfl rfl rfl rfl

theorem faultLink_laneStep (l : Lane) : LaneStep s (s.faultLink l) :=
  .ite (fun _ => .refl s) fun _ => (s.setLink_laneStep l (by exact fun ok => ⟨ok.queue, ok.failures, nofun⟩)).trans (request_laneStep _ _ _)

theorem sendOut_laneStep (src : Block) (l : Lane) (m : OutMsg) : LaneStep s (s.sendOut src l m) := by
  refine .ite (fun _ => .refl s) fun _ => .ite (fun room => s.setLink_laneStep l fun ok => ⟨?_, ok.failures, ok.latched⟩) fun _ =>
    s.faultLink_laneStep l
  rw [List.length_append]
  exact room

theorem emptyHolder_laneStep (l : Lane) : LaneStep s (s.emptyHolder l) :=
  s.setLink_laneStep l fun ok => ⟨ok.queue, ok.failures, ok.latched⟩

/-! ## The links -/

theorem restartLink_laneStep (l : Lane) : LaneStep s (s.restartLink l) :=
  s.setLink_laneStep l fun _ => ⟨Nat.zero_le _, Nat.zero_le _, fun _ => Nat.zero_le _⟩

theorem enterHolder_laneStep (l : Lane) (k : InKind) (body : List Byte) : LaneStep s (s.enterHolder l k body) :=
  s.setLink_laneStep l fun ok => ⟨ok.queue, ok.failures, ok.latched⟩

theorem setReception_laneStep (l : Lane) (r : Reception) : LaneStep s (s.setReception l r) :=
  s.setLink_laneStep l fun ok => ⟨ok.queue, ok.failures, ok.latched⟩

theorem helloAtLink_laneStep (l : Lane) : LaneStep s (s.helloAtLink l) :=
  (s.restartLink_laneStep l).trans (enterHolder_laneStep _ l _ _)

/-- The third failure sets the latch as it is counted (R158). -/
theorem countFailure_laneStep (l : Lane) : LaneStep s (s.countFailure l) := by
  unfold countFailure
  dsimp only
  refine .ite (fun _ => .refl s) fun unlatched => .ite (fun few => ?_) fun _ => ?_
  · refine s.setLink_laneStep l fun ok => ⟨ok.queue, ?_, fun _ => ?_⟩
    · exact (Nat.le_of_lt few)
    · exact Nat.le_of_lt_succ few
  · unfold faultLink
    rw [setLink_links, PerLane.get_set_same]
    dsimp only
    rw [if_neg unlatched]
    refine LaneStep.trans ?_ (request_laneStep _ _ _)
    refine ⟨rfl, fun ok m => ?_, fun _ => id⟩
    rw [setLink_links, setLink_links, PerLane.set_set]
    have few := (ok l).latched (by simpa using unlatched)
    have new : ({ s.links.get l with failures := (s.links.get l).failures + 1, latch := true } : LinkLane).Ok :=
      ⟨(ok l).queue, Nat.succ_le_succ few, nofun⟩
    exact linksOk_set ok new m

theorem clearFailures_laneStep (l : Lane) : LaneStep s (s.clearFailures l) :=
  .ite (fun _ => .refl s) fun _ => s.setLink_laneStep l fun ok => ⟨ok.queue, Nat.zero_le _, fun _ => Nat.zero_le _⟩

theorem admitMessage_laneStep (l : Lane) (hold holdoff : Bool) (k : InKind) (body : List Byte) :
    LaneStep s (s.admitMessage l hold holdoff k body) :=
  .ite (fun _ => s.helloAtLink_laneStep l) fun _ => .ite (fun _ => s.sendOut_laneStep _ l _) fun _ =>
    .ite (fun _ => s.sendOut_laneStep _ l _) fun _ => s.enterHolder_laneStep l k body

theorem sortMessage_laneStep (l : Lane) (hold holdoff : Bool) (kind : Byte) (body : List Byte) :
    LaneStep s (s.sortMessage l hold holdoff kind body) := by
  refine .ite (fun _ => s.sendOut_laneStep _ l _) fun _ => ?_
  split
  · exact .ite (fun _ => s.admitMessage_laneStep l hold holdoff _ body) fun _ => s.sendOut_laneStep _ l _
  · exact s.sendOut_laneStep _ l _

theorem arrive_laneStep (l : Lane) (hold holdoff : Bool) (bytes : List Byte) : LaneStep s (s.arrive l hold holdoff bytes) :=
  .ite (fun _ => (s.clearFailures_laneStep l).trans (sortMessage_laneStep _ l hold holdoff _ _)) fun _ =>
    (s.countFailure_laneStep l).trans (sendOut_laneStep _ _ l _)

theorem beginReception_laneStep (l : Lane) : LaneStep s (s.beginReception l) := by
  unfold beginReception
  split
  · exact s.setReception_laneStep l _
  · exact .refl s
  · exact .refl s

theorem endReception_laneStep (l : Lane) (bytes : List Byte) : LaneStep s (s.endReception l bytes) := by
  unfold endReception
  split
  · exact s.arrive_laneStep l _ _ bytes
  · exact (s.setReception_laneStep l .idle).trans (arrive_laneStep _ l _ _ bytes)
  · exact .refl s

theorem helloArrives_laneStep (l : Lane) : LaneStep s (s.helloArrives l) := by
  unfold helloArrives
  split
  · exact s.helloAtLink_laneStep l
  · exact (s.setReception_laneStep l .idle).trans (helloAtLink_laneStep _ l)
  · exact .refl s

theorem sendHead_laneStep (l : Lane) : LaneStep s (s.sendHead l) := by
  unfold sendHead
  split
  · exact .refl s
  case _ m rest queue =>
    refine s.setLink_laneStep l fun ok => ⟨?_, ok.failures, ok.latched⟩
    have room := ok.queue
    rw [queue, List.length_cons] at room
    exact Nat.le_of_succ_le room

theorem restartReception_laneStep (l : Lane) : LaneStep s (s.restartReception l) := by
  unfold restartReception
  split
  · exact .refl s
  · exact .refl s
  · exact s.setReception_laneStep l .idle

/-! ## The Plan Stacks -/

theorem sendOrder_laneStep (l : Lane) (w : SwitchRecord) {state : PlanState} (n : Nat) (on : state ≠ .disabled) :
    LaneStep s (s.sendOrder l w state n) :=
  (s.sendOut_laneStep _ l _).trans (setPlan_laneStep _ l fun off => absurd off on)

theorem firstOrder_laneStep (l : Lane) : LaneStep s (s.firstOrder l) := by
  unfold firstOrder
  split
  · exact s.sendOrder_laneStep l _ 0 nofun
  · exact .refl s

theorem beginSwitch_laneStep (l : Lane) (w : SwitchRecord) : LaneStep s (s.beginSwitch l w) := by
  have begun : LaneStep s (s.setPlan l { s.plans.get l with state := .draining, switch := some w, settle := none }) :=
    s.setPlan_laneStep l (by nofun)
  exact .ite (fun _ => begun.trans (firstOrder_laneStep _ l)) fun _ => begun

theorem judge_laneStep (l : Lane) : LaneStep s (s.judge l) := by
  have stacked (stack : List PlanEntry) : LaneStep s (s.setPlan l { s.plans.get l with stack := stack }) :=
    s.setPlan_laneStep l (by exact id)
  unfold judge
  dsimp only
  split
  · exact .refl s
  · split
    · exact .refl s
    · refine .ite (fun _ => stacked _) fun _ => ?_
      split
      · exact stacked _
      · unfold searchFallback
        dsimp only
        split
        · refine (stacked _).trans (.ite (fun _ => request_laneStep _ _ _) fun _ => ?_)
          exact (setPlan_laneStep _ l (by nofun)).trans (request_laneStep _ _ _)
        · split
          · exact (stacked _).trans (beginSwitch_laneStep _ l _)
          · exact stacked _

theorem judgeEligible_laneStep (l : Lane) : LaneStep s (s.judgeEligible l) := .ite (fun _ => s.judge_laneStep l) fun _ => .refl s

theorem judgeAll_laneStep : LaneStep s s.judgeAll :=
  (s.judgeEligible_laneStep .l0).trans (judgeEligible_laneStep _ .l1) |>.trans (judgeEligible_laneStep _ .l2)

theorem takeDrain_laneStep (l : Lane) : LaneStep s (s.takeDrain l) := .ite (fun _ => s.firstOrder_laneStep l) fun _ => .refl s

theorem completeSwitch_laneStep (l : Lane) (w : SwitchRecord) : LaneStep s (s.completeSwitch l w) := by
  unfold completeSwitch
  dsimp only
  exact .ite (fun _ => (s.setPlan_laneStep l (by nofun)).trans (request_laneStep _ _ _)) fun _ => s.setPlan_laneStep l (by nofun)

theorem failSwitch_laneStep (l : Lane) (w : SwitchRecord) : LaneStep s (s.failSwitch l w) := by
  unfold failSwitch
  dsimp only
  refine .ite (fun _ => ?_) fun _ => ?_
  · exact (s.setPlan_laneStep l (by nofun)).trans (request_laneStep _ _ _) |>.trans (request_laneStep _ _ _)
  · exact (s.setPlan_laneStep l (by nofun)).trans (request_laneStep _ _ _) |>.trans (judgeEligible_laneStep _ l)

theorem takeHeldAnswer_laneStep (l : Lane) (kind : InKind) {finish : State → SwitchRecord → State}
    (finishes : ∀ u w, LaneStep u (finish u w)) : LaneStep s (s.takeHeldAnswer l kind finish) := by
  have emptied := s.emptyHolder_laneStep l
  have taken (u : State) (p : PlanSpan) : LaneStep u (u.takeAnswer l p kind finish) := by
    unfold takeAnswer
    split
    · exact .ite (fun _ => finishes u _) fun _ => u.sendOut_laneStep _ l _
    · exact u.sendOut_laneStep _ l _
  unfold takeHeldAnswer
  dsimp only
  refine .ite (fun _ => ?_) fun _ => .refl s
  split
  · exact emptied
  · split
    · exact emptied.trans (taken _ _)
    · exact emptied.trans (sendOut_laneStep _ _ l _)

theorem expireSwitch_laneStep (l : Lane) : LaneStep s (s.expireSwitch l) := by
  unfold expireSwitch
  dsimp only
  refine .ite (fun _ => ?_) fun _ => .refl s
  split
  · exact .refl s
  · refine .ite (fun _ => s.sendOrder_laneStep l _ _ nofun) fun _ => ?_
    exact (s.setPlan_laneStep l (by nofun)).trans (request_laneStep _ _ _) |>.trans (request_laneStep _ _ _)

theorem expireSettle_laneStep (l : Lane) : LaneStep s (s.expireSettle l) :=
  .ite (fun _ => (s.setPlan_laneStep l (by exact id)).trans (judgeEligible_laneStep _ l)) fun _ => .refl s

theorem restoreTop_laneStep (l : Lane) : LaneStep s (s.restoreTop l) := by
  unfold restoreTop
  dsimp only
  split
  · exact .refl s
  · exact (s.setPlan_laneStep l (by exact id)).trans (firstOrder_laneStep _ l)

theorem sendWelcome_laneStep (l : Lane) : LaneStep s (s.sendWelcome l) := s.sendOut_laneStep _ l _

/-! ## The Grant Engine -/

theorem setGrant_fewer {l : Lane} {out : List Grant} (n : Byte) (e o : Nat) (c : Option Closure)
    (less : out.Sublist (s.grants.get l).outstanding) : LaneStep s (s.setGrant l ⟨n, out, e, o, c⟩) :=
  s.setGrant_laneStep l fun _ none => List.sublist_nil.mp (none ▸ less)

theorem moveGuard_laneStep (l : Lane) (n : Nat) : LaneStep s (s.moveGuard l n) :=
  .ite (fun _ => .refl s) fun _ => (s.setGrant_fewer _ _ _ _ (.refl _)).trans (hand_laneStep _ _ _)

theorem setOkRun_laneStep (l : Lane) (n : Nat) : LaneStep s (s.setOkRun l n) := s.setGrant_fewer _ _ _ _ (.refl _)

theorem removeGrant_laneStep (l : Lane) (id : Byte) (code : ClosingCode) (used : Option Nat) :
    LaneStep s (s.removeGrant l id code used) := s.setGrant_fewer _ _ _ _ List.eraseP_sublist

theorem noticeDrain_laneStep (l : Lane) : LaneStep s (s.noticeDrain l) := .of_same (s.noticeDrain_changesOnly l) (by decide)

theorem closeLane_laneStep (l : Lane) : LaneStep s (s.closeLane l) := by
  unfold closeLane
  refine .ite (fun _ => .refl s) fun _ => ?_
  split
  · exact .refl s
  · exact (s.setGrant_fewer _ _ _ _ (List.nil_sublist _)).trans (hand_laneStep _ _ _)

theorem resetGuard_laneStep (l : Lane) : LaneStep s (s.resetGuard l) :=
  .ite (fun _ => .refl s) fun _ => (s.setOkRun_laneStep l 0).trans (moveGuard_laneStep _ l _)

theorem settleOutcome_laneStep (l : Lane) (x : Grant) (r : Outcome) : LaneStep s (s.settleOutcome l x r) := by
  have claimed (r : ClaimResult) : LaneStep s (s.claimFor x r) := .of_same (s.claimFor_changesOnly x r) (by decide)
  cases r with
  | ok =>
    refine (claimed .ok).trans (.ite (fun _ => ?_) fun _ => setOkRun_laneStep _ l _)
    exact (setOkRun_laneStep _ l _).trans (moveGuard_laneStep _ l _)
  | lost =>
    refine (claimed .lost).trans (.ite (fun _ => ?_) fun _ => setOkRun_laneStep _ l _)
    exact (setOkRun_laneStep _ l _).trans (moveGuard_laneStep _ l _)
  | abandoned => exact .refl s

theorem applyOutcome_laneStep (l : Lane) (o : OutcomeReport) : LaneStep s (s.applyOutcome l o) := by
  unfold applyOutcome
  split
  · exact s.sendOut_laneStep _ l _
  · exact (s.removeGrant_laneStep l _ _ _).trans (sendOut_laneStep _ _ l _) |>.trans (settleOutcome_laneStep _ l _ _)
      |>.trans (noticeDrain_laneStep _ l)

theorem takeOutcome_laneStep (l : Lane) : LaneStep s (s.takeOutcome l) := by
  have emptied := s.emptyHolder_laneStep l
  unfold takeOutcome
  dsimp only
  split
  · exact emptied
  · split
    · exact emptied.trans (applyOutcome_laneStep _ l _)
    · exact emptied.trans (sendOut_laneStep _ _ l _)

theorem expireGrant_laneStep (l : Lane) (id : Byte) : LaneStep s (s.expireGrant l id) := by
  unfold expireGrant
  split
  · exact .refl s
  · exact .ite (fun _ => (s.removeGrant_laneStep l id _ _).trans (noticeDrain_laneStep _ l)) fun _ => .refl s

/-- A GO is given on a SETTLED lane only (R125). -/
theorem grantQuery_laneStep {l : Lane} (settled : (s.plans.get l).state = .settled) (top : PlanSpan) (q : Query) :
    LaneStep s (s.grantQuery l top q) := by
  unfold grantQuery
  dsimp only
  split
  · refine (s.setGrant_laneStep l fun disabled => ?_).trans (sendOut_laneStep _ _ l _)
    rw [settled] at disabled
    cases disabled
  · exact s.sendOut_laneStep _ l _

theorem evaluate_laneStep (l : Lane) (q : Query) : LaneStep s (s.evaluate l q) := by
  unfold evaluate
  split
  case _ => exact s.sendOut_laneStep _ l _
  case _ => exact s.sendOut_laneStep _ l _
  case _ => exact s.sendOut_laneStep _ l _
  case _ => exact s.sendOut_laneStep _ l _
  case _ => exact s.sendOut_laneStep _ l _
  case _ settled =>
    refine .ite (fun _ => s.sendOut_laneStep _ l _) fun _ => ?_
    split
    · exact s.grantQuery_laneStep settled _ q
    · exact .refl s

theorem takeQuery_laneStep (l : Lane) : LaneStep s (s.takeQuery l) := by
  have emptied := s.emptyHolder_laneStep l
  unfold takeQuery
  dsimp only
  split
  · exact emptied
  · have taken : LaneStep s { s.emptyHolder l with arbiter := l } := emptied.trans (.of_eq rfl rfl rfl rfl)
    split
    · exact taken.trans (evaluate_laneStep _ l _)
    · exact taken.trans (sendOut_laneStep _ _ l _)

/-! ## Time and restarts -/

theorem takePrompt_laneStep (x : Prompt) : LaneStep s (s.takePrompt x) := by
  cases x with
  | holdoverExpiry => exact .of_same s.expireHoldover_changesOnly (by decide)
  | grantExpiry l id => exact s.expireGrant_laneStep l id
  | switchTimeout l => exact s.expireSwitch_laneStep l
  | settleTimerExpiry l => exact s.expireSettle_laneStep l
  | outcome l => exact .ite (fun _ => s.takeOutcome_laneStep l) fun _ => .refl s

theorem restartLane_laneStep (l : Lane) : LaneStep s (s.restartLane l) := by
  have closed := (s.closeLane_laneStep l).trans (resetGuard_laneStep _ l)
  refine closed.trans (.ite (fun _ => sendWelcome_laneStep _ l) fun _ => ?_)
  exact (setPlan_laneStep _ l (by exact id)).trans (sendWelcome_laneStep _ l) |>.trans (restoreTop_laneStep _ l)

/-- DISABLE closes the lane's grants before it disables the lane (R118). -/
theorem takeOutOfService_laneStep (l : Lane) : LaneStep s (s.takeOutOfService l) := by
  refine ⟨s.closeLane_changesOnly l .resets (by decide), (s.closeLane_laneStep l).links, fun none idle m disabled => ?_⟩
  have grants : (s.takeOutOfService l).grants = (s.closeLane l).grants := rfl
  rw [s.takeOutOfService_plans, PerLane.get_set] at disabled
  rw [grants, s.closeLane_grants, crossesReset_of_none s none, if_neg Bool.false_ne_true, PerLane.get_set]
  split
  case isTrue => rfl
  case isFalse other => rw [if_neg other] at disabled; exact idle m disabled

theorem clampGuard_laneStep (l : Lane) : LaneStep s (s.clampGuard l) := s.moveGuard_laneStep l _

end State

end Sys2Proof.Machine

/-! The invariants of the tracker, the table, the coverage map, the links and the advised-station set over a step. -/

namespace Sys2Proof.Machine

open Sys2Proof

/-! ## The lanes over a command -/

theorem event_laneStep {s t : State} {f : State → State} (h : event s f = .next t) (effect : LaneStep s (f s)) : LaneStep s t :=
  event_keeps (P := LaneStep s) h (.refl s) fun _ => effect

theorem transact_laneStep {c : Instr} {s t : State} {owner : State → State × Response} (h : transact c s owner = .next t)
    (effect : ∀ u, LaneStep u (owner u).1) : LaneStep s t := by
  obtain ⟨n, rfl⟩ | ⟨u, found, rfl⟩ := transact_cases h
  · exact .of_same (s.carryNotReady_changesOnly n) (by decide)
  · exact (LaneStep.of_same found (by decide)).trans (effect u) |>.trans (.of_same (State.answering_changesOnly _ _ _) (by decide))

theorem withLane_laneStep {lane : Byte} {s : State} {f : Lane → State × Response} (h : ∀ l, LaneStep s (f l).1) :
    LaneStep s (withLane lane s f).1 := withLane_keeps (P := LaneStep s) (.refl s) h

theorem pushChecked_laneStep (l : Lane) (p : PlanSpan) (tolerance : Nat) (s : State) : LaneStep s (pushChecked l p tolerance s).1 := by
  unfold pushChecked
  dsimp only
  split
  · exact .refl s
  · split
    · exact .refl s
    · split
      · exact .refl s
      · have begun (t : State) (stacked : LaneStep s t) (n : Nat) :
            LaneStep s (if (s.plans.get l).state = .disabled then t else t.beginSwitch l ⟨.push, n, p⟩) :=
          .ite (fun _ => stacked) fun _ => stacked.trans (t.beginSwitch_laneStep l _)
        refine begun _ (.ite (fun _ => ?_) fun _ => s.setPlan_laneStep l (by exact id)) _
        exact (s.setPlan_laneStep l (by exact id)).trans (State.request_laneStep _ _ _)

theorem pushOwner_laneStep (lane : Byte) (plan : RawPlan) (tolerance : Byte) (s : State) :
    LaneStep s (pushOwner lane plan tolerance s).1 := by
  refine withLane_laneStep fun l => ?_
  split
  · split
    · exact pushChecked_laneStep l _ _ s
    · exact .refl s
  · exact .refl s

theorem popOwner_laneStep (lane : Byte) (s : State) : LaneStep s (popOwner lane s).1 := by
  refine withLane_laneStep fun l => ?_
  dsimp only
  split
  · exact .refl s
  · split
    · split
      · exact .refl s
      · exact s.setPlan_laneStep l (by exact id)
    · unfold popSwitch
      dsimp only
      split
      · exact .refl s
      · split
        · exact s.beginSwitch_laneStep l _
        · exact .refl s

theorem continueOwner_laneStep (lane : Byte) (s : State) : LaneStep s (continueOwner lane s).1 := by
  refine withLane_laneStep fun l => ?_
  dsimp only
  split
  · exact s.setPlan_laneStep l (by nofun)
  · exact .refl s

theorem enableOwner_laneStep (lane : Byte) (s : State) : LaneStep s (enableOwner lane s).1 := by
  refine withLane_laneStep fun l => ?_
  dsimp only
  split
  · exact .refl s
  · split
    · exact .refl s
    · exact (s.sendWelcome_laneStep l).trans (State.restoreTop_laneStep _ l)

theorem disableOwner_laneStep (lane : Byte) (s : State) : LaneStep s (disableOwner lane s).1 := by
  refine withLane_laneStep fun l => ?_
  split
  · exact .refl s
  · exact s.takeOutOfService_laneStep l

theorem setParameterOwner_laneStep (number qualifier : Byte) (value : BitVec 32) (s : State) :
    LaneStep s (setParameterOwner number qualifier value s).1 := by
  unfold setParameterOwner
  split
  · exact .refl s
  · split
    · exact .refl s
    case _ p _ =>
      have stored : LaneStep s { s with params := p } := .of_eq rfl rfl rfl rfl
      refine stored.trans (.ite (fun _ => ?_) fun _ => .refl _)
      exact (State.clampGuard_laneStep _ .l0).trans (State.clampGuard_laneStep _ .l1) |>.trans (State.clampGuard_laneStep _ .l2)

/-- The commands that reset lanes, or hand a soft reset. -/
def resetsLanes (c : Instr) : Bool :=
  match c with
  | .powerOnReset => true
  | .softReset => true
  | .softResetBlock _ => true
  | _ => false

/-- Every other command takes a step of the lanes. -/
theorem exec_laneStep {c : Instr} {s t : State} (h : exec c s = .next t) (other : resetsLanes c = false) : LaneStep s t := by
  by_cases touched : ∃ p ∈ [Part.resets, .links, .plans, .grants], p ∈ footprint c
  case neg => exact .of_same (exec_changesOnly h) fun p i j => touched ⟨p, i, j⟩
  have judged (u : State) (x : Handed) : LaneStep u (u.taking x).judgeAll := (u.taking_laneStep x).trans (State.judgeAll_laneStep _)
  cases c with
  | tick =>
    refine event_laneStep (show execTick s = _ from h) ?_
    refine s.toNextTick_induction (P := LaneStep s) ?_ ?_ _ (.refl s)
    · exact fun u v moved k => k.trans (.of_same moved (by decide))
    · exact fun u p k => k.trans (u.takePrompt_laneStep p)
  | laneMessageArrival l e =>
    refine event_laneStep (show execLaneMessageArrival l e s = _ from h) ?_
    cases e with
    | firstByte => exact s.beginReception_laneStep l
    | ends bytes => exact s.endReception_laneStep l bytes
  | helloArrival l => exact event_laneStep (show execHelloArrival l s = _ from h) (s.helloArrives_laneStep l)
  | outboundSend l => exact event_laneStep (show execOutboundSend l s = _ from h) (s.sendHead_laneStep l)
  | receptionRestartAfterIdleGap l =>
    exact event_laneStep (show execReceptionRestartAfterIdleGap l s = _ from h) (s.restartReception_laneStep l)
  | hello l =>
    have emptied := s.emptyHolder_laneStep l
    exact event_laneStep (show execHello l s = _ from h) (.ite (fun _ => .ite (fun _ =>
      emptied.trans (State.restartLane_laneStep _ l)) fun _ => emptied) fun _ => .refl s)
  | query =>
    refine event_laneStep (show execQuery s = _ from h) ?_
    split
    · exact s.takeQuery_laneStep _
    · exact .refl s
  | outcome l => exact event_laneStep (show execOutcome l s = _ from h) (.ite (fun _ => s.takeOutcome_laneStep l) fun _ => .refl s)
  | grantExpiry l id => exact event_laneStep (show execGrantExpiry l id s = _ from h) (s.expireGrant_laneStep l id)
  | survey =>
    refine event_laneStep (show execSurvey s = _ from h) ?_
    have emptied (l : Lane) := s.emptyHolder_laneStep l
    split
    · unfold State.takeSurvey
      dsimp only
      split
      · exact emptied _
      · split
        · exact (emptied _).trans (.of_same (State.acceptSurvey_changesOnly _ _) (by decide))
        · exact (emptied _).trans (State.sendOut_laneStep _ _ _ _)
    · exact .refl s
  | cadenceStateNotice => exact event_laneStep (show execCadenceStateNotice s = _ from h) (judged s _)
  | changeNotice k => exact event_laneStep (show execChangeNotice k s = _ from h) (judged s _)
  | guardChangeNotice l => exact event_laneStep (show execGuardChangeNotice l s = _ from h) (judged s _)
  | modeNotice => exact event_laneStep (show execModeNotice s = _ from h) (judged s _)
  | drainNotice l =>
    exact event_laneStep (show execDrainNotice l s = _ from h) ((s.taking_laneStep _).trans (State.takeDrain_laneStep _ l))
  | switchDone l =>
    exact event_laneStep (show execSwitchDone l s = _ from h)
      (s.takeHeldAnswer_laneStep l _ fun u w => u.completeSwitch_laneStep l w)
  | switchFailed l =>
    exact event_laneStep (show execSwitchFailed l s = _ from h) (s.takeHeldAnswer_laneStep l _ fun u w => u.failSwitch_laneStep l w)
  | switchTimeout l => exact event_laneStep (show execSwitchTimeout l s = _ from h) (s.expireSwitch_laneStep l)
  | settleTimerExpiry l => exact event_laneStep (show execSettleTimerExpiry l s = _ from h) (s.expireSettle_laneStep l)
  | push lane plan tolerance =>
    exact transact_laneStep (show execPush lane plan tolerance s = _ from h) (pushOwner_laneStep lane plan tolerance)
  | pop lane => exact transact_laneStep (show execPop lane s = _ from h) (popOwner_laneStep lane)
  | continueLane lane => exact transact_laneStep (show execContinueLane lane s = _ from h) (continueOwner_laneStep lane)
  | enable lane => exact transact_laneStep (show execEnable lane s = _ from h) (enableOwner_laneStep lane)
  | disable lane => exact transact_laneStep (show execDisable lane s = _ from h) (disableOwner_laneStep lane)
  | laneReset lane =>
    exact transact_laneStep (show execLaneReset lane s = _ from h) fun u => withLane_laneStep fun l =>
      (u.restartLink_laneStep l).trans (State.restartLane_laneStep _ l)
  | setParameter number qualifier value =>
    exact transact_laneStep (show execSetParameter number qualifier value s = _ from h) (setParameterOwner_laneStep number qualifier value)
  | powerOnReset | softReset | softResetBlock => cases other
  | _ => simp [footprint, portParts] at touched

/-! ## The lanes over the resets -/

theorem softLink_ok {k : LinkLane} : (State.softLink k).Ok := ⟨Nat.zero_le _, Nat.zero_le _, fun _ => Nat.zero_le _⟩

theorem resetLink_ok : LinkLane.reset.Ok := ⟨Nat.zero_le _, Nat.zero_le _, fun _ => Nat.zero_le _⟩

theorem takeReset_linksOk (s : State) (b : Block) (ok : s.LinksOk) : (s.takeReset b).LinksOk := by
  cases b with
  | lli =>
    unfold State.takeReset
    split
    case isFalse => exact ok
    case isTrue =>
      intro l
      have links : (State.finishSoftReset { (s.dropWork .lli).blockValues .lli with resets := s.resets.erase .lli }).links =
          ⟨State.softLink s.links.l0, State.softLink s.links.l1, State.softLink s.links.l2⟩ := by
        unfold State.finishSoftReset
        split <;> rfl
      rw [links]
      cases l <;> exact softLink_ok
  | _ =>
    intro l
    rw [s.takeReset_changesOnly _ .links (by simp [resetParts])]
    exact ok l

theorem exec_linksOk {c : Instr} {s t : State} (h : exec c s = .next t) (ok : s.LinksOk) : t.LinksOk := by
  cases other : resetsLanes c with
  | false => exact (exec_laneStep h other).links ok
  | true =>
    cases c with
    | powerOnReset =>
      cases (show execPowerOnReset s = _ from h)
      intro l
      cases l <;> exact resetLink_ok
    | softReset =>
      intro l
      rw [exec_changesOnly h .links (by decide)]
      exact ok l
    | softResetBlock b =>
      exact event_keeps (P := State.LinksOk) (show execSoftResetBlock b s = _ from h) ok fun _ => takeReset_linksOk s b ok
    | _ => cases other

theorem exec_disabledIdle {c : Instr} {s t : State} (h : exec c s = .next t) (none : s.resets = []) (idle : s.DisabledIdle) :
    t.DisabledIdle := by
  cases other : resetsLanes c with
  | false => exact (exec_laneStep h other).idle none idle
  | true =>
    cases c with
    | powerOnReset =>
      cases (show execPowerOnReset s = _ from h)
      intro l _
      cases l <;> rfl
    | softReset =>
      intro l
      rw [exec_changesOnly h .plans (by decide), exec_changesOnly h .grants (by decide)]
      exact idle l
    | softResetBlock b =>
      refine event_keeps (P := State.DisabledIdle) (show execSoftResetBlock b s = _ from h) idle fun _ => ?_
      rw [State.takeReset, State.resetting, none]
      exact idle
    | _ => cases other

/-! ## O9 -/

theorem exec_cadenceOk {c : Instr} {s t : State} (h : exec c s = .next t) (ok : s.CadenceOk) : t.CadenceOk := by
  by_cases touched : .tracker ∈ footprint c ∨ .table ∈ footprint c
  case neg =>
    rw [not_or] at touched
    exact ok.of_eq (exec_changesOnly h .tracker touched.1) (exec_changesOnly h .table touched.2)
  by_cases running : c = .powerOnReset
  · subst running
    cases (show execPowerOnReset s = _ from h)
    have table (k : Slot) : s.holdReset.table[k] = none := by
      rw [show s.holdReset.table = Vector.replicate 32 none from rfl, Fin.getElem_fin, Vector.getElem_replicate]
    exact ⟨nofun, fun _ k r held => by rw [table k] at held; cases held⟩
  · exact (exec_cadenceStep h touched running).cadence ok

theorem cadenceOk_dependsOn : DependsOn [.tracker, .table] State.CadenceOk := fun _ _ same ok =>
  ok.of_eq (same .tracker (by simp)) (same .table (by simp))

/-- Settles O9: the anchor and the phases by the claims that touch them, the DISABLED lanes by what every operation of a lane
does to its plan state and its grants. -/
theorem stepKeepsAnchorPhasesAndDisabledLanes : Obligations.StepKeepsAnchorPhasesAndDisabledLanes := by
  unfold Obligations.StepKeepsAnchorPhasesAndDisabledLanes
  intro s t run
  refine ⟨fun _ => cadenceOk_dependsOn.step (by decide) (fun c s t _ run => exec_cadenceOk run) run, fun none idle => ?_⟩
  rcases step_cases run with moved | ⟨c, u, moved, run⟩
  · intro l
    rw [moved .plans (by decide), moved .grants (by decide)]
    exact idle l
  · refine exec_disabledIdle run ((moved .resets (by decide)).trans none) fun l => ?_
    rw [moved .plans (by decide), moved .grants (by decide)]
    exact idle l

end Sys2Proof.Machine

/-! The ranges of Tables 2-1, 3-1, 4-2 and 9-3 and of the advised-station set over a step. -/

namespace Sys2Proof.Machine

open Sys2Proof

/-! ## Coverage ages (R62) -/

theorem coverageAfter_le (v : Survey) {ages : Vector Nat 48} (ok : ∀ i : Fin 48, ages[i] ≤ 255) (i : Fin 48) :
    (coverageAfter v ages)[i] ≤ 255 := by
  rw [coverageAfter, Fin.getElem_fin, Vector.getElem_ofFn]
  split
  · exact Nat.zero_le _
  · split
    · exact Nat.min_le_left _ _
    · exact ok i

theorem acceptSurvey_coverage (s : State) (v : Survey) : (s.acceptSurvey v).coverage = coverageAfter v s.coverage := by
  unfold State.acceptSurvey
  dsimp only
  split
  · rfl
  · have reported (t : State) (x : Option Handed) : (t.handReport x).coverage = t.coverage := by
      unfold State.handReport
      split
      · exact t.hand_changesOnly _ _ .coverage (by decide)
      · rfl
    rw [reported, State.surveyClaim_changesOnly _ _ .coverage (by decide)]

theorem takeSurvey_coverageOk (s : State) (l : Lane) (ok : s.CoverageOk) : (s.takeSurvey l).CoverageOk := by
  unfold State.takeSurvey
  dsimp only
  split
  · exact ok
  · split
    · intro i
      rw [acceptSurvey_coverage]
      exact coverageAfter_le _ ok i
    · intro i
      rw [State.sendOut_changesOnly _ _ _ _ .coverage (by decide)]
      exact ok i

theorem coverageOk_of_replicate {t : State} (coverage : t.coverage = Vector.replicate 48 255) : t.CoverageOk := by
  intro i
  rw [coverage, Fin.getElem_fin, Vector.getElem_replicate]

theorem takeReset_coverageOk (s : State) (b : Block) (ok : s.CoverageOk) : (s.takeReset b).CoverageOk := by
  cases b with
  | svi =>
    unfold State.takeReset
    split
    case isFalse => exact ok
    case isTrue =>
      refine coverageOk_of_replicate ?_
      unfold State.finishSoftReset
      split <;> rfl
  | _ =>
    intro i
    rw [s.takeReset_changesOnly _ .coverage (by simp [resetParts])]
    exact ok i

theorem exec_coverageOk {c : Instr} {s t : State} (h : exec c s = .next t) (ok : s.CoverageOk) : t.CoverageOk := by
  by_cases touched : .coverage ∈ footprint c
  case neg =>
    intro i
    rw [exec_changesOnly h .coverage touched]
    exact ok i
  cases c with
  | powerOnReset =>
    cases (show execPowerOnReset s = _ from h)
    exact coverageOk_of_replicate rfl
  | softResetBlock b =>
    exact event_keeps (P := State.CoverageOk) (show execSoftResetBlock b s = _ from h) ok fun _ => takeReset_coverageOk s b ok
  | survey =>
    refine event_keeps (P := State.CoverageOk) (show execSurvey s = _ from h) ok fun _ => ?_
    split
    · exact takeSurvey_coverageOk s _ ok
    · exact ok
  | _ => simp [footprint, portParts, State.tickParts] at touched

/-! ## The advised-station set (R92) -/

theorem stationBit_getLsbD_zero (k : StationSlot) : (stationBit k).getLsbD 0 = false := by
  simp [stationBit, stationNumber]

theorem advise_advisedOk {s : State} (ok : s.AdvisedOk) (k : StationSlot) : (s.advise k).AdvisedOk := by
  unfold State.advise
  split
  · exact ok
  · show (s.advised ||| stationBit k).getLsbD 0 = false
    rw [BitVec.getLsbD_or, stationBit_getLsbD_zero, Bool.or_false]
    exact ok

theorem unadvise_advisedOk {s : State} (ok : s.AdvisedOk) (k : StationSlot) : (s.unadvise k).AdvisedOk := by
  unfold State.unadvise
  split
  · exact ok
  · show (s.advised &&& ~~~stationBit k).getLsbD 0 = false
    rw [BitVec.getLsbD_and, show s.advised.getLsbD 0 = false from ok, Bool.false_and]

theorem advisedOk_of_eq {s t : State} (ok : s.AdvisedOk) (advised : t.advised = s.advised) : t.AdvisedOk :=
  (congrArg (BitVec.getLsbD · 0) advised).trans ok

theorem advisedOk_dependsOn : DependsOn [.advised] State.AdvisedOk := fun _ _ same ok =>
  advisedOk_of_eq ok (same .advised (by simp))

theorem counterClaim_advisedOk {s : State} (ok : s.AdvisedOk) (a : Address) (r : ClaimResult) : (s.counterClaim a r).AdvisedOk := by
  unfold State.counterClaim
  split
  · exact ok
  · split
    · exact ok
    · split
      · dsimp only
        split
        · exact ok
        · exact unadvise_advisedOk (s := s.setStation _ _) ok _
      · dsimp only
        split
        · exact ok
        · exact advisedOk_of_eq (s := s.setStation _ _) ok (State.hand_changesOnly _ _ _ .advised (by decide))

theorem applySteering_advisedOk {s : State} (ok : s.AdvisedOk) (x : SteeringResult) : (s.applySteering x).AdvisedOk := by
  unfold State.applySteering
  split
  · exact ok
  · split
    · split
      · exact advise_advisedOk (s := s.setStation _ _) ok _
      · exact ok
    · exact ok

theorem withStation_keeps {P : State → Prop} {slot : Byte} {s : State} {f : StationSlot → Station → State × Response} (hs : P s)
    (h : ∀ k r, P (f k r).1) : P (withStation slot s f).1 := by
  unfold withStation
  split
  · exact hs
  · exact hs
  · split
    · exact hs
    · exact h _ _

theorem stationAmendOwner_advisedOk (a : StationAmendArgs) {s : State} (ok : s.AdvisedOk) : (stationAmendOwner a s).1.AdvisedOk := by
  refine withStation_keeps ok fun k r => ?_
  split
  · exact ok
  · split
    · exact ok
    · dsimp only
      split
      · exact ok
      · exact unadvise_advisedOk (s := s.setStation _ _) ok _

theorem releaseOwner_advisedOk (slot : Byte) {s : State} (ok : s.AdvisedOk) : (releaseOwner slot s).1.AdvisedOk :=
  withStation_keeps ok fun k _ => unadvise_advisedOk (s := s.setStation k none) ok k

theorem exec_advisedOk {c : Instr} {s t : State} (h : exec c s = .next t) (ok : s.AdvisedOk) : t.AdvisedOk := by
  by_cases touched : .advised ∈ footprint c
  case neg => exact advisedOk_of_eq ok (exec_changesOnly h .advised touched)
  cases c with
  | powerOnReset =>
    cases (show execPowerOnReset s = _ from h)
    exact (rfl : (0 : BitVec 64).getLsbD 0 = false)
  | softReset =>
    have run : execSoftReset s = .next t := h
    unfold execSoftReset at run
    split at run <;> cases run
    · exact (rfl : (0 : BitVec 64).getLsbD 0 = false)
    · exact ok
  | softResetBlock b => cases b <;> simp [footprint, resetParts] at touched
  | counterClaim a r =>
    exact event_keeps (P := State.AdvisedOk) (show execCounterClaim a r s = _ from h) ok fun _ =>
      counterClaim_advisedOk (s := s.taking _) ok a r
  | steeringResult x =>
    exact event_keeps (P := State.AdvisedOk) (show execSteeringResult x s = _ from h) ok fun _ =>
      applySteering_advisedOk (s := s.taking _) ok x
  | stationAmend a =>
    exact advisedOk_dependsOn.transact (by decide) (show execStationAmend a s = _ from h) ok fun _ => stationAmendOwner_advisedOk a
  | release slot =>
    exact advisedOk_dependsOn.transact (by decide) (show execRelease slot s = _ from h) ok fun _ => releaseOwner_advisedOk slot
  | takeChanges =>
    exact advisedOk_dependsOn.transact (by decide) (show execTakeChanges s = _ from h) ok fun _ _ =>
      (rfl : (0 : BitVec 64).getLsbD 0 = false)
  | _ => simp [footprint, portParts, State.tickParts] at touched

/-! ## The tracker and the table -/

theorem exec_trackerKept {c : Instr} {s t : State} (h : exec c s = .next t) (params : s.params.Ok) (ok : s.tracker.Ok) :
    t.tracker.Ok ∧ (t.tracker.consistent = s.tracker.consistent ∨ t.tracker.consistent < t.params.lockCount) := by
  by_cases touched : .tracker ∈ footprint c
  case neg =>
    rw [exec_changesOnly h .tracker touched]
    exact ⟨ok, .inl rfl⟩
  by_cases running : c = .powerOnReset
  · subst running
    cases (show execPowerOnReset s = _ from h)
    exact ⟨reset_tracker_within, .inr (by decide : 0 < Params.default.lockCount)⟩
  · obtain ⟨same, kept, count⟩ := (exec_cadenceStep h (.inl touched) running).tracker
    rw [same]
    exact ⟨kept params ok, count params ok⟩

theorem exec_tableOk {c : Instr} {s t : State} (h : exec c s = .next t) (tracker : s.tracker.Ok) (ok : s.TableOk) : t.TableOk := by
  by_cases touched : .table ∈ footprint c
  case neg => exact ok.of_eq (exec_changesOnly h .table touched)
  by_cases running : c = .powerOnReset
  · subst running
    cases (show execPowerOnReset s = _ from h)
    intro k r held
    rw [show s.holdReset.table = Vector.replicate 32 none from rfl, Fin.getElem_fin, Vector.getElem_replicate] at held
    cases held
  · exact (exec_cadenceStep h (.inr touched) running).table tracker ok

/-- Settles O10: each part of the state by the commands that touch it. -/
theorem stepKeepsTableRanges : Obligations.StepKeepsTableRanges := by
  unfold Obligations.StepKeepsTableRanges
  intro s t run
  rcases step_cases run with moved | ⟨c, u, moved, run⟩
  · refine ⟨fun _ ok => ?_, fun _ table coverage => ⟨table.of_eq (moved .table (by decide)), fun i => ?_⟩, fun links advised =>
      ⟨fun l => ?_, advisedOk_of_eq advised (moved .advised (by decide))⟩⟩
    · rw [moved .tracker (by decide)]
      exact ⟨ok, .inl rfl⟩
    · rw [moved .coverage (by decide)]
      exact coverage i
    · rw [moved .links (by decide)]
      exact links l
  · have same (p : Part) (other : p ∉ [Part.pending, .choices]) : s.sameAt u p := moved p other
    have tracker : u.tracker = s.tracker := same .tracker (by decide)
    refine ⟨fun params ok => ?_, fun ok table coverage => ⟨?_, ?_⟩, fun links advised => ⟨?_, ?_⟩⟩
    · rw [← tracker]
      exact exec_trackerKept run (same .params (by decide) ▸ params) (tracker ▸ ok)
    · exact exec_tableOk run (tracker ▸ ok) (table.of_eq (same .table (by decide)))
    · refine exec_coverageOk run fun i => ?_
      rw [same .coverage (by decide)]
      exact coverage i
    · refine exec_linksOk run fun l => ?_
      rw [same .links (by decide)]
      exact links l
    · exact exec_advisedOk run (advisedOk_of_eq advised (same .advised (by decide)))

end Sys2Proof.Machine

/-! The state after reset, power-on reset and its release (R6, R174). -/

namespace Sys2Proof.Machine

open Sys2Proof

theorem powerOn_table (k : Slot) : State.powerOn.table[k] = none := by
  rw [show State.powerOn.table = Vector.replicate 32 none from rfl, Fin.getElem_fin, Vector.getElem_replicate]

theorem powerOn_coverage (i : Fin 48) : State.powerOn.coverage[i] = 255 := by
  rw [show State.powerOn.coverage = Vector.replicate 48 255 from rfl, Fin.getElem_fin, Vector.getElem_replicate]

theorem powerOn_stations (k : StationSlot) : State.powerOn.stations[k] = none := by
  rw [show State.powerOn.stations = Vector.replicate 63 none from rfl, Fin.getElem_fin, Vector.getElem_replicate]

theorem resetPlan_ok (b : Band) : (PlanLane.reset b).Ok where
  depth := Nat.zero_le _
  enabled on := absurd rfl on
  entries := nofun
  switching := rfl
  target := nofun
  attempts := Nat.zero_le _
  settle := nofun
  timeout := rfl

theorem powerOn_plans (l : Lane) : ∃ b, State.powerOn.plans.get l = .reset b := by
  cases l <;> exact ⟨_, rfl⟩

theorem powerOn_grants (l : Lane) : State.powerOn.grants.get l = .reset 300 := by cases l <;> rfl

theorem powerOn_links (l : Lane) : State.powerOn.links.get l = .reset := by cases l <;> rfl

/-- Settles O4: each part of the state after reset is empty or at its default. -/
theorem resetStateIsSound : Obligations.ResetStateIsSound := by
  unfold Obligations.ResetStateIsSound
  have table (k : Slot) : State.reset.table[k] = none := powerOn_table k
  refine ⟨Params.default_ok, reset_tracker_within, fun k r h => ?_, ⟨nofun, fun _ k r h => ?_⟩, fun i => ?_,
    stationsOk_of_empty rfl, fun l => ?_, fun l => ?_, fun l => ?_, fun l => ?_, rfl, rfl, fun l _ => ?_⟩
  · rw [table] at h; cases h
  · rw [table] at h; cases h
  · exact (powerOn_coverage i).le
  · obtain ⟨b, eq⟩ := powerOn_plans l
    exact eq ▸ resetPlan_ok b
  · exact powerOn_grants l ▸ GrantLane.reset_ok _
  · rw [show State.reset.grants.get l = .reset 300 from powerOn_grants l]
    exact (by decide : 150 ≤ 300 ∧ 300 ≤ 1000)
  · exact powerOn_links l ▸ resetLink_ok
  · rw [show State.reset.grants.get l = .reset 300 from powerOn_grants l]
    rfl

/-- Settles O11: the power-on state is written out in the model, and the release raises two levels. -/
theorem powerOnAndRelease : Obligations.PowerOnAndRelease := by
  unfold Obligations.PowerOnAndRelease
  refine fun s => ⟨⟨s.holdReset, rfl, ?_⟩, fun held => ?_⟩
  · exact ⟨rfl, rfl, rfl, rfl, rfl, rfl, rfl, rfl, rfl, rfl, rfl, rfl, powerOn_table, powerOn_coverage, powerOn_stations, rfl, rfl,
      powerOn_grants, powerOn_links, rfl, rfl, rfl, rfl, rfl, rfl, rfl⟩
  · show Host.Outcome.next s.releaseReset = _
    rw [State.releaseReset, held]
    rfl

end Sys2Proof.Machine

/-! Air time and TICK (R6, R10, R11): what an idle step does, what holds time back, and the way to the next multiple of 1,024. -/

namespace Sys2Proof.Machine

open Sys2Proof

theorem exec_tick {s : State} (running : s.resetN = true) : exec .tick s = .next (s.toNextTick Config.tickRounds) := by
  show execTick s = _
  rw [execTick, event, if_pos running]

/-- With no command waiting the part moves of its own accord. -/
theorem step_of_idle {s : State} (idle : s.pending = []) : step s = s.autonomous := by
  rw [step, idle]

/-! ## What holds time back -/

theorem handed_toInstr_airTime (x : Handed) : .airTime ∉ footprint x.toInstr := by
  cases x <;> simp [Handed.toInstr, footprint]

theorem prompt_toInstr_airTime (x : Prompt) : .airTime ∉ footprint x.toInstr := by
  cases x <;> simp [Prompt.toInstr, footprint]

theorem eq_of_mem_ite {α : Type} {p : Prop} [Decidable p] {x y : α} (h : x ∈ if p then [y] else []) : x = y := by
  split at h
  · exact List.eq_of_mem_singleton h
  · cases h

theorem readyTakes_airTime {s : State} {c : Instr} (h : c ∈ s.readyTakes) : .airTime ∉ footprint c := by
  simp only [State.readyTakes, List.mem_append, List.mem_flatMap] at h
  rcases h with (h | h) | ⟨l, -, (h | h) | h⟩ <;> cases eq_of_mem_ite h <;> simp [footprint]

/-- No event that is ready in the part moves the air time. -/
theorem readyEvents_airTime {s : State} {c : Instr} (h : c ∈ s.readyEvents) : .airTime ∉ footprint c := by
  simp only [State.readyEvents, List.mem_append] at h
  rcases h with (((h | h) | h) | h) | h
  · obtain ⟨x, -, rfl⟩ := List.mem_map.mp h
    exact prompt_toInstr_airTime x
  · obtain ⟨x, -, rfl⟩ := List.mem_map.mp h
    exact handed_toInstr_airTime x
  · obtain ⟨b, -, rfl⟩ := List.mem_map.mp h
    cases b <;> simp [footprint, resetParts]
  · exact readyTakes_airTime h
  · obtain ⟨l, -, h⟩ := List.mem_flatMap.mp h
    split at h
    · cases h
    · cases List.eq_of_mem_singleton h
      simp [footprint]

theorem happen_airTime {s u t : State} {x : Happening} (mem : x ∈ s.happenings) (prompt : s.prompts ≠ [])
    (run : u.happen x = .next t) : t.airTime = u.airTime := by
  have waits : s.prompts.isEmpty = false := by simpa using prompt
  simp only [State.happenings, waits, List.mem_append] at mem
  rcases mem with (mem | mem) | mem
  · obtain ⟨c, ready, rfl⟩ := List.mem_map.mp mem
    exact exec_changesOnly run .airTime (readyEvents_airTime ready)
  · split at mem
    · cases List.eq_of_mem_singleton mem
      cases run
      cases u.answer <;> rfl
    · cases mem
  · cases mem

/-- While something waits to be taken first, a step of the part's own leaves the air time as it is. -/
theorem autonomous_airTime {s t : State} (prompt : s.prompts ≠ []) (run : s.autonomous = .next t) : t.airTime = s.airTime := by
  unfold State.autonomous at run
  split at run
  · split at run
    · cases run; rfl
    case _ x xs found =>
      rw [← s.chose_airTime (x :: xs).length]
      refine happen_airTime (s := s) ?_ prompt run
      rw [found]
      cases pick : (x :: xs)[s.choice (x :: xs).length]? with
      | none => exact List.mem_cons_self ..
      | some y => exact List.mem_of_getElem? pick
  · cases run; rfl

/-- A lane's timers that are due and its held OUTCOME are among the prompts. -/
theorem mem_prompts_of_lane {s : State} {l : Lane} {x : Prompt} (h : x ∈ s.lanePrompts l) : s.prompts ≠ [] := by
  refine List.ne_nil_of_mem (a := x) (List.mem_append_right _ (List.mem_flatMap.mpr ⟨l, ?_, h⟩))
  cases l <;> decide

theorem prompts_of_due {s : State} (due :
    (∃ d, (s.tracker.state = .locked ∨ s.tracker.state = .holdover) ∧ s.tracker.holdover = some d ∧
        atOrAfter s.airTime d = true) ∨
      ∃ l : Lane, (∃ x ∈ (s.grants.get l).outstanding, atOrAfter s.airTime x.expiry = true) ∨
        (∃ d, ((s.plans.get l).state = .switching ∨ (s.plans.get l).state = .unsynced) ∧
          (s.plans.get l).timeout = some d ∧ atOrAfter s.airTime d = true) ∨
        (∃ d, (s.plans.get l).settle = some d ∧ atOrAfter s.airTime d = true) ∨
        ∃ m, (s.links.get l).holder = some m ∧ m.kind = .outcome) : s.prompts ≠ [] := by
  rcases due with ⟨d, predicts, timer, due⟩ | ⟨l, ⟨x, mem, due⟩ | ⟨d, state, timer, due⟩ | ⟨d, timer, due⟩ | ⟨m, held, kind⟩⟩
  · simp [State.prompts, (s.tracker.predicting_iff).mpr predicts, timer, reached, due]
  · refine mem_prompts_of_lane (l := l) (x := .grantExpiry l x.id) ?_
    simp only [State.lanePrompts, List.mem_append, List.mem_map, List.mem_filter]
    exact .inl (.inl (.inl ⟨x, ⟨mem, due⟩, rfl⟩))
  · refine mem_prompts_of_lane (l := l) (x := .switchTimeout l) ?_
    have flight : (s.plans.get l).state.inFlight = true := by rcases state with state | state <;> rw [state] <;> rfl
    simp [State.lanePrompts, flight, timer, reached, due]
  · refine mem_prompts_of_lane (l := l) (x := .settleTimerExpiry l) ?_
    simp [State.lanePrompts, timer, reached, due]
  · refine mem_prompts_of_lane (l := l) (x := .outcome l) ?_
    simp [State.lanePrompts, State.holds, held, kind]

/-! ## The pulse (R11) -/

theorem tickDistance_pos (t : AirTime) : 0 < State.tickDistance t ∧ State.tickDistance t ≤ 1024 := by
  simp only [State.tickDistance, Config.tickPeriod]
  omega

theorem pulse_multiple (t : AirTime) : (t + BitVec.ofNat 32 (State.tickDistance t)).toNat % 1024 = 0 := by
  simp only [State.tickDistance, Config.tickPeriod, BitVec.toNat_add, BitVec.toNat_ofNat]
  omega

theorem pulse_distance (t : AirTime) :
    (t + BitVec.ofNat 32 (State.tickDistance t) - t).toNat = State.tickDistance t := by
  have bounds := tickDistance_pos t
  rw [show t + BitVec.ofNat 32 (State.tickDistance t) - t = BitVec.ofNat 32 (State.tickDistance t) by
    rw [BitVec.add_comm, BitVec.add_sub_cancel], BitVec.toNat_ofNat]
  exact Nat.mod_eq_of_lt (by omega)

/-- TICK is high from a multiple of 1,024 for four microseconds. -/
theorem tickAt_of_multiple {t : AirTime} (h : t.toNat % 1024 = 0) (tick : Bool) : State.tickAt t tick = true := if_pos h

theorem tickAt_within {t : AirTime} {n : Nat} (h : t.toNat % 1024 = n) (pos : 0 < n) (tick : Bool) :
    State.tickAt t tick = (tick && decide (n < 4)) := by
  rw [State.tickAt, Config.tickPeriod, Config.tickWidth, h, if_neg (by omega)]

theorem microsecond_after {t : AirTime} {n : Nat} (h : t.toNat % 1024 = n) (low : n < 1023) : (t + 1).toNat % 1024 = n + 1 := by
  rw [BitVec.toNat_add, show (1 : AirTime).toNat = 1 from rfl]
  omega

theorem toNextTick_tick (n : Nat) (s : State) : (s.toNextTick n).tick = true := by
  have pulse (u : State) : (u.pass (State.tickDistance u.airTime)).tick = true := tickAt_of_multiple (pulse_multiple u.airTime) _
  induction n generalizing s with
  | zero => exact pulse s
  | succ n ih =>
    unfold State.toNextTick
    split
    · split
      · exact pulse s
      · exact ih _
    · exact ih _

/-- The four microseconds after a pulse begins. -/
theorem pulse_width {t : State} (tick : t.tick = true) (start : t.airTime.toNat % 1024 = 0) :
    t.passMicrosecond.tick = true ∧ t.passMicrosecond.passMicrosecond.tick = true ∧
      t.passMicrosecond.passMicrosecond.passMicrosecond.tick = true ∧
      t.passMicrosecond.passMicrosecond.passMicrosecond.passMicrosecond.tick = false := by
  have one := microsecond_after start (by decide)
  have two := microsecond_after one (by decide)
  have three := microsecond_after two (by decide)
  have four := microsecond_after three (by decide)
  have high1 : t.passMicrosecond.tick = true := (tickAt_within one (by decide) _).trans (by rw [tick]; rfl)
  have high2 : t.passMicrosecond.passMicrosecond.tick = true := (tickAt_within two (by decide) _).trans (by rw [high1]; rfl)
  have high3 : t.passMicrosecond.passMicrosecond.passMicrosecond.tick = true :=
    (tickAt_within three (by decide) _).trans (by rw [high2]; rfl)
  exact ⟨high1, high2, high3, (tickAt_within four (by decide) _).trans (Bool.and_false _)⟩

/-! ## The way to the pulse -/

theorem pass_to_pulse (s : State) :
    s.pass (State.tickDistance s.airTime) =
      { s with airTime := s.airTime + BitVec.ofNat 32 (State.tickDistance s.airTime), tick := true } := by
  rw [State.pass, after, tickAt_of_multiple (pulse_multiple s.airTime)]

/-- No deadline comes before the pulse. -/
theorem quiet_of_later {s : State} (later : ∀ d ∈ s.deadlines, State.tickDistance s.airTime ≤ (d - s.airTime).toNat) :
    s.quiet = State.tickDistance s.airTime := by
  unfold State.quiet
  revert later
  generalize s.deadlines = ds
  induction ds with
  | nil => exact fun _ => rfl
  | cons d ds ih =>
    intro later
    obtain ⟨first, rest⟩ := List.forall_mem_cons.mp later
    rw [List.foldl_cons, Nat.min_eq_left first]
    exact ih rest

theorem toNextTick_of_later {s : State} (n : Nat) (none : s.prompts = [])
    (later : ∀ d ∈ s.deadlines, State.tickDistance s.airTime ≤ (d - s.airTime).toNat) :
    s.toNextTick n = { s with airTime := s.airTime + BitVec.ofNat 32 (State.tickDistance s.airTime), tick := true } := by
  cases n with
  | zero => exact pass_to_pulse s
  | succ n =>
    unfold State.toNextTick
    rw [none]
    dsimp only
    rw [if_pos (quiet_of_later later)]
    exact pass_to_pulse s

/-- No timer runs but those of grants, and no OUTCOME is held. -/
structure State.OnlyGrantTimers (s : State) : Prop where
  holdover : s.tracker.predicting = true → s.tracker.holdover = none
  timeout : ∀ l : Lane, (s.plans.get l).state.inFlight = true → (s.plans.get l).timeout = none
  settle : ∀ l : Lane, (s.plans.get l).settle = none
  outcome : ∀ l : Lane, s.holds l .outcome = false

theorem State.OnlyGrantTimers.prompts {s : State} (only : s.OnlyGrantTimers) :
    s.prompts = Lane.all.flatMap fun l =>
      ((s.grants.get l).outstanding.filter fun g => atOrAfter s.airTime g.expiry).map fun g => Prompt.grantExpiry l g.id := by
  have lane (l : Lane) : s.lanePrompts l =
      ((s.grants.get l).outstanding.filter fun g => atOrAfter s.airTime g.expiry).map fun g => Prompt.grantExpiry l g.id := by
    rw [State.lanePrompts, only.settle l, only.outcome l]
    cases flight : (s.plans.get l).state.inFlight with
    | false => simp [reached]
    | true => rw [only.timeout l flight]; simp [reached]
  have tracker : (if s.tracker.predicting && reached s.airTime s.tracker.holdover then [Prompt.holdoverExpiry] else []) = [] := by
    cases predicts : s.tracker.predicting with
    | false => rfl
    | true => rw [only.holdover predicts]; rfl
  rw [State.prompts, tracker, List.nil_append]
  exact congrArg Lane.all.flatMap (funext lane)

theorem State.OnlyGrantTimers.deadlines {s : State} (only : s.OnlyGrantTimers) :
    s.deadlines = Lane.all.flatMap fun l => (s.grants.get l).outstanding.map (·.expiry) := by
  have lane (l : Lane) : s.laneDeadlines l = (s.grants.get l).outstanding.map (·.expiry) := by
    rw [State.laneDeadlines, only.settle l]
    cases flight : (s.plans.get l).state.inFlight with
    | false => simp
    | true => rw [only.timeout l flight]; simp
  have tracker : (if s.tracker.predicting then s.tracker.holdover.toList else []) = [] := by
    cases predicts : s.tracker.predicting with
    | false => rfl
    | true => rw [only.holdover predicts]; rfl
  rw [State.deadlines, tracker, List.nil_append]
  exact congrArg Lane.all.flatMap (funext lane)

/-- A grant expires on the way when its timer is the only one that runs and its deadline comes first (R10, R146). -/
theorem State.OnlyGrantTimers.of_deadlines {s : State} {l : Lane} {x : Grant} (none : s.prompts = [])
    (only : s.deadlines = [x.expiry]) (held : (s.grants.get l).outstanding = [x]) :
    s.OnlyGrantTimers ∧ ∀ m, m ≠ l → (s.grants.get m).outstanding = [] := by
  have length := congrArg List.length only
  have lane (m : Lane) : (s.laneDeadlines m).length = (s.grants.get m).outstanding.length +
      (if (s.plans.get m).state.inFlight then (s.plans.get m).timeout.toList else []).length + (s.plans.get m).settle.toList.length := by
    simp [State.laneDeadlines, Nat.add_assoc]
  have one : (s.grants.get l).outstanding.length = 1 := by rw [held]; rfl
  have total : (if s.tracker.predicting then s.tracker.holdover.toList else []).length +
      ((s.laneDeadlines .l0).length + ((s.laneDeadlines .l1).length + (s.laneDeadlines .l2).length)) = 1 := by
    simpa [State.deadlines, Lane.all, Nat.add_assoc] using length
  rw [lane, lane, lane] at total
  have outcome (m : Lane) : s.holds m .outcome = false := by
    by_contra held
    refine mem_prompts_of_lane (s := s) (l := m) (x := .outcome m) ?_ none
    simp [State.lanePrompts, Bool.not_eq_false _ ▸ held]
  refine ⟨⟨fun predicts => ?_, fun m flight => ?_, fun m => ?_, outcome⟩, fun m other => ?_⟩
  · rw [predicts] at total
    rw [← Option.toList_eq_nil_iff, ← List.length_eq_zero_iff]
    cases l <;> simp only [if_true] at total <;> omega
  · rw [← Option.toList_eq_nil_iff, ← List.length_eq_zero_iff]
    cases l <;> cases m <;> rw [flight] at total <;> simp only [if_true] at total <;> omega
  · rw [← Option.toList_eq_nil_iff, ← List.length_eq_zero_iff]
    cases l <;> cases m <;> omega
  · rw [← List.length_eq_zero_iff]
    cases l <;> cases m <;> first | exact absurd rfl other | omega

/-- A step of the TICK's way that takes the only prompt there is. -/
theorem toNextTick_of_prompt {s : State} (n : Nat) {x : Prompt} (one : s.prompts = [x]) :
    s.toNextTick (n + 1) = (s.takePrompt x).toNextTick n := by
  conv_lhs => unfold State.toNextTick
  rw [one]
  rfl

/-- A step of the way that lets time pass to a deadline before the pulse. -/
theorem toNextTick_of_quiet {s : State} (n : Nat) (none : s.prompts = []) (soon : s.quiet ≠ State.tickDistance s.airTime) :
    s.toNextTick (n + 1) = (s.pass s.quiet).toNextTick n := by
  conv_lhs => unfold State.toNextTick
  rw [none]
  dsimp only
  rw [if_neg soon]

theorem flatMap_lanes_single {α : Type} {f : Lane → List α} {l : Lane} {x : α} (own : f l = [x]) (other : ∀ m, m ≠ l → f m = []) :
    Lane.all.flatMap f = [x] := by
  cases l <;> simp [Lane.all, own, other]

theorem flatMap_lanes_nil {α : Type} {f : Lane → List α} (none : ∀ m, f m = []) : Lane.all.flatMap f = [] := by
  simp [none]

/-- With no grant outstanding either, no timer runs and nothing is due. -/
theorem State.OnlyGrantTimers.quiet {s : State} (only : s.OnlyGrantTimers) (none : ∀ l : Lane, (s.grants.get l).outstanding = []) :
    s.prompts = [] ∧ s.deadlines = [] := by
  rw [only.prompts, only.deadlines]
  exact ⟨flatMap_lanes_nil fun m => by rw [none m]; rfl, flatMap_lanes_nil fun m => by rw [none m]; rfl⟩

/-- The expiry of a lane's only grant. -/
theorem expireGrant_of_single {s : State} {l : Lane} {x : Grant} (settled : s.resets = []) (held : (s.grants.get l).outstanding = [x])
    (due : atOrAfter s.airTime x.expiry = true) :
    s.expireGrant l x.id = { s with
      handed := s.handed ++ [.drainNotice l]
      grants := s.grants.set l { s.grants.get l with outstanding := [], lastClosure := some ⟨x.id, .expired, none⟩ } } := by
  have split : (s.grants.get l).outstanding = [] ++ x :: [] := held
  have found : s.findGrant l x.id = some x := State.findGrant_of_split split rfl nofun
  rw [State.expireGrant_of_due found due, State.removeGrant_of_split split rfl nofun,
    State.noticeDrain_of_none ((s.setGrant_resets l _).trans settled), State.setGrant_grants, PerLane.get_set_same]
  rfl

/-- The TICK of a part with one grant, whose expiry comes before the pulse and is its only deadline. -/
theorem toNextTick_of_expiry {s : State} (n : Nat) {l : Lane} {x : Grant} (settled : s.resets = []) (none : s.prompts = [])
    (only : s.deadlines = [x.expiry]) (held : (s.grants.get l).outstanding = [x])
    (soon : (x.expiry - s.airTime).toNat < State.tickDistance s.airTime) :
    s.toNextTick (n + 2) = { s with
      airTime := s.airTime + BitVec.ofNat 32 (State.tickDistance s.airTime), tick := true
      handed := s.handed ++ [.drainNotice l]
      grants := s.grants.set l { s.grants.get l with outstanding := [], lastClosure := some ⟨x.id, .expired, Option.none⟩ } } := by
  obtain ⟨timers, others⟩ := State.OnlyGrantTimers.of_deadlines none only held
  have quiet : s.quiet = (x.expiry - s.airTime).toNat := by
    rw [State.quiet, only]
    exact Nat.min_eq_right (Nat.le_of_lt soon)
  have reach : s.airTime + BitVec.ofNat 32 s.quiet = x.expiry := by
    rw [quiet, BitVec.ofNat_toNat, BitVec.setWidth_eq, BitVec.add_comm, BitVec.sub_add_cancel]
  have rest : x.expiry + BitVec.ofNat 32 (State.tickDistance x.expiry) =
      s.airTime + BitVec.ofNat 32 (State.tickDistance s.airTime) := by
    rw [← reach, State.tickDistance_add _ _ (quiet ▸ soon), BitVec.add_assoc, ← BitVec.ofNat_add,
      Nat.add_sub_cancel' (Nat.le_of_lt (quiet ▸ soon))]
  have due : (s.pass s.quiet).prompts = [.grantExpiry l x.id] := by
    have timers : (s.pass s.quiet).OnlyGrantTimers := ⟨timers.holdover, timers.timeout, timers.settle, timers.outcome⟩
    rw [timers.prompts]
    refine flatMap_lanes_single (l := l) ?_ fun m other => ?_
    · simp [State.pass, after, held, reach, atOrAfter]
    · simp [State.pass, others m other]
  have expired := expireGrant_of_single (s := s.pass s.quiet) settled held (by simp [State.pass, after, reach, atOrAfter])
  rw [toNextTick_of_quiet (n + 1) none (by omega), toNextTick_of_prompt n due,
    show (s.pass s.quiet).takePrompt (.grantExpiry l x.id) = _ from expired]
  have empty (m : Lane) :
      (((s.pass s.quiet).grants.set l { (s.pass s.quiet).grants.get l with
        outstanding := [], lastClosure := some ⟨x.id, .expired, Option.none⟩ }).get m).outstanding = [] := by
    rw [PerLane.get_set]
    split
    · rfl
    case isFalse other => exact others m other
  generalize left : ({ s.pass s.quiet with
      handed := (s.pass s.quiet).handed ++ [.drainNotice l]
      grants := (s.pass s.quiet).grants.set l { (s.pass s.quiet).grants.get l with
        outstanding := [], lastClosure := some ⟨x.id, .expired, Option.none⟩ } } : State) = v
  have timers : v.OnlyGrantTimers := by
    subst left
    exact ⟨timers.holdover, timers.timeout, timers.settle, timers.outcome⟩
  obtain ⟨prompts, deadlines⟩ := timers.quiet fun m => by subst left; exact empty m
  rw [toNextTick_of_later n prompts (by rw [deadlines]; exact nofun)]
  subst left
  simp only [State.pass, after, reach, rest]

/-- Settles O12: an idle step takes one of the happenings, and TICK goes from deadline to deadline up to the pulse. -/
theorem timePassesAndTicks : Obligations.TimePassesAndTicks := by
  unfold Obligations.TimePassesAndTicks
  refine ⟨fun s idle => ⟨fun held => ?_, fun running quiet free => ?_, fun _ due t run => ?_⟩, fun s running => ?_,
    fun s l x running settled none only held soon => ?_⟩
  · rw [step_of_idle idle, State.autonomous, held]
    rfl
  · have prompts : s.prompts = [] := by
      simp only [State.readyEvents, List.append_eq_nil_iff, List.map_eq_nil_iff] at quiet
      exact quiet.1.1.1.1
    have only : s.happenings = [.microsecond] := by
      rw [State.happenings, quiet, free, prompts]
      rfl
    rw [step_of_idle idle, State.autonomous, if_pos running, only]
    rfl
  · exact autonomous_airTime (prompts_of_due due) (step_of_idle idle ▸ run)
  · refine ⟨_, exec_tick running, toNextTick_tick _ s, ?_⟩
    have time := s.toNextTick_airTime Config.tickRounds
    have multiple : (s.toNextTick Config.tickRounds).airTime.toNat % 1024 = 0 := time ▸ pulse_multiple s.airTime
    have distance : ((s.toNextTick Config.tickRounds).airTime - s.airTime).toNat = State.tickDistance s.airTime :=
      time ▸ pulse_distance s.airTime
    obtain ⟨one, two, three, four⟩ := pulse_width (toNextTick_tick _ s) multiple
    have bounds := tickDistance_pos s.airTime
    refine ⟨multiple, distance ▸ bounds.1, distance ▸ bounds.2, one, two, three, four, fun none later => ?_⟩
    rw [distance] at later
    rw [time]
    exact toNextTick_of_later Config.tickRounds none later
  · refine ⟨_, exec_tick running, ?_⟩
    rw [s.toNextTick_airTime]
    exact toNextTick_of_expiry 62 settled none only held soon

end Sys2Proof.Machine

/-! The soft reset (R174): what one block's taking of it does, and where the seven of them end in whatever order. -/

namespace Sys2Proof.Machine

open Sys2Proof

/-! ## One block -/

theorem exec_softResetBlock {s : State} (running : s.resetN = true) (b : Block) :
    exec (.softResetBlock b) s = .next (s.takeReset b) :=
  event_of_running s (fun s => s.takeReset b) running

theorem takeReset_of_not_mem {s : State} {b : Block} (out : b ∉ s.resets) : s.takeReset b = s := by
  rw [State.takeReset, State.resetting, List.contains_eq_mem, decide_eq_false out]
  rfl

/-- What a block's reset leaves of a state, before READY is looked at. -/
def State.resetBlock (s : State) (b : Block) : State := { (s.dropWork b).blockValues b with resets := s.resets.erase b }

theorem takeReset_of_mem {s : State} {b : Block} (handed : b ∈ s.resets) : s.takeReset b = (s.resetBlock b).finishSoftReset := by
  rw [State.takeReset, State.resetting, List.contains_eq_mem, decide_eq_true handed]
  rfl

theorem finishSoftReset_changesOnly (s : State) : ChangesOnly [.ready, .response] s s.finishSoftReset := by
  unfold State.finishSoftReset
  split
  · intro p out; cases p <;> first | exact (out (by decide)).elim | rfl
  · exact .refl _ s

theorem resetBlock_resets (s : State) (b : Block) : (s.resetBlock b).resets = s.resets.erase b := rfl

theorem finishSoftReset_of_nil {s : State} (none : s.resets = []) :
    s.finishSoftReset.ready = true ∧ s.finishSoftReset.response = .done := by
  rw [State.finishSoftReset, if_pos none]
  exact ⟨rfl, rfl⟩

theorem finishSoftReset_of_ne {s : State} (some : s.resets ≠ []) : s.finishSoftReset = s := if_neg some

/-- A block's reset discards the block's work and sets the block's own values. -/
theorem resetBlock_fields (s : State) (b : Block) :
    (s.resetBlock b).handed = s.handed.filter (fun h => h.receiver != b) ∧
      (s.resetBlock b).tracker = (if b = .ctk then Tracker.reset
        else if b = .ift then { Tracker.reset with period := s.tracker.period } else s.tracker) ∧
      (s.resetBlock b).table = (if b = .ift then Vector.replicate 32 none else if b = .ctk then s.removePhases.table else s.table) ∧
      (s.resetBlock b).coverage = (if b = .svi then Vector.replicate 48 255 else s.coverage) ∧
      (s.resetBlock b).stations = (if b = .stb then Vector.replicate 63 none else s.stations) ∧
      (s.resetBlock b).plans = (if b = .pls then ⟨.reset .l, .reset .l, .reset .h⟩ else s.plans) ∧
      (s.resetBlock b).arbiter = (if b = .gre then .l2 else s.arbiter) ∧
      (s.resetBlock b).grants = (if b = .gre then
        ⟨.reset s.params.guardInitial, .reset s.params.guardInitial, .reset s.params.guardInitial⟩ else s.grants) ∧
      (s.resetBlock b).links = (if b = .lli then
        ⟨State.softLink s.links.l0, State.softLink s.links.l1, State.softLink s.links.l2⟩ else s.links) := by
  cases b <;> simp [State.resetBlock, State.blockValues, State.dropWork, State.removePhases, State.setTracker, Tracker.freed, Tracker.reset]

theorem softLink_get (links : PerLane LinkLane) (l : Lane) :
    (PerLane.get ⟨State.softLink links.l0, State.softLink links.l1, State.softLink links.l2⟩ l : LinkLane) =
      State.softLink (links.get l) := by cases l <;> rfl

theorem softLink_eq (k : LinkLane) : State.softLink k =
    { k with
      holder := none, outbound := [], failures := 0, latch := false
      reception := if k.reception = .idle then .idle else .awaitingGap } := by
  obtain ⟨holder, failures, latch, outbound, reception, txd⟩ := k
  cases reception <;> rfl

theorem resetGrants_get (n : Nat) (l : Lane) : (PerLane.get ⟨GrantLane.reset n, .reset n, .reset n⟩ l : GrantLane) = .reset n := by
  cases l <;> rfl

/-! ## Every block -/

/-- What the taking of a reset may change, whichever block's it is. -/
theorem takeReset_changesOnly_any (s : State) (b : Block) :
    ChangesOnly [.handed, .resets, .ready, .response, .tracker, .table, .coverage, .stations, .plans, .arbiter, .grants, .links]
      s (s.takeReset b) :=
  (s.takeReset_changesOnly b).mono (by cases b <;> simp [resetParts])

theorem resetBlock_port (s : State) (b : Block) : (s.resetBlock b).ready = s.ready ∧ (s.resetBlock b).response = s.response := by
  have moved := (s.dropWork b).blockValues_changesOnly b
  exact ⟨moved .ready (by cases b <;> decide), moved .response (by cases b <;> decide)⟩

/-- A part in a soft reset whose blocks in the list have taken theirs, and the state right after the command. -/
structure Resetting (start : State) (done : List Block) (u : State) : Prop where
  kept : ChangesOnly [.handed, .resets, .ready, .response, .tracker, .table, .coverage, .stations, .plans, .arbiter, .grants, .links]
    start u
  finished : u.resets = [] → u.ready = true ∧ u.response = .done
  handed : ∀ h ∈ u.handed, h.receiver ∉ done
  tracker : .ctk ∈ done → u.tracker = .reset
  table : .ift ∈ done → u.table = Vector.replicate 32 none
  coverage : .svi ∈ done → u.coverage = Vector.replicate 48 255
  stations : .stb ∈ done → u.stations = Vector.replicate 63 none
  plans : .pls ∈ done → u.plans = ⟨.reset .l, .reset .l, .reset .h⟩
  arbiter : .gre ∈ done → u.arbiter = .l2
  grants : .gre ∈ done → ∀ l, u.grants.get l = .reset start.params.guardInitial
  links : .lli ∈ done → ∀ l, (u.links.get l).holder = none ∧ (u.links.get l).outbound = [] ∧ (u.links.get l).failures = 0 ∧
    (u.links.get l).latch = false

theorem removePhases_of_empty {s : State} (empty : s.table = Vector.replicate 32 none) : s.removePhases.table = Vector.replicate 32 none := by
  refine Vector.ext fun i h => ?_
  have slot := s.removePhases_table ⟨i, h⟩
  rw [Fin.getElem_fin, empty] at slot
  simpa using slot

theorem Resetting.take {start u : State} {done : List Block} (r : Resetting start done u) {b : Block} (mem : b ∈ u.resets) :
    Resetting start (b :: done) (u.takeReset b) := by
  have moved := finishSoftReset_changesOnly (u.resetBlock b)
  obtain ⟨handed, tracker, table, coverage, stations, plans, arbiter, grants, links⟩ := resetBlock_fields u b
  have params : u.params = start.params := r.kept .params (by decide)
  rw [takeReset_of_mem mem]
  refine ⟨?_, fun none => ?_, ?_, ?_, ?_, ?_, ?_, ?_, ?_, ?_, ?_⟩
  · refine r.kept.trans ?_
    rw [← takeReset_of_mem mem]
    exact takeReset_changesOnly_any u b
  · rw [moved .resets (by decide)] at none
    exact finishSoftReset_of_nil none
  · rw [moved .handed (by decide), handed]
    intro h mem
    obtain ⟨old, other⟩ := List.mem_filter.mp mem
    rw [List.mem_cons, not_or]
    exact ⟨by simpa using other, r.handed h old⟩
  · intro taken
    rw [moved .tracker (by decide), tracker]
    split
    · rfl
    case isFalse other =>
      rw [r.tracker (List.mem_of_ne_of_mem (Ne.symm other) taken)]
      split <;> rfl
  · intro taken
    rw [moved .table (by decide), table]
    split
    · rfl
    case isFalse other =>
      have empty := r.table (List.mem_of_ne_of_mem (Ne.symm other) taken)
      split
      · exact removePhases_of_empty empty
      · exact empty
  · intro taken
    rw [moved .coverage (by decide), coverage]
    split
    · rfl
    case isFalse other => exact r.coverage (List.mem_of_ne_of_mem (Ne.symm other) taken)
  · intro taken
    rw [moved .stations (by decide), stations]
    split
    · rfl
    case isFalse other => exact r.stations (List.mem_of_ne_of_mem (Ne.symm other) taken)
  · intro taken
    rw [moved .plans (by decide), plans]
    split
    · rfl
    case isFalse other => exact r.plans (List.mem_of_ne_of_mem (Ne.symm other) taken)
  · intro taken
    rw [moved .arbiter (by decide), arbiter]
    split
    · rfl
    case isFalse other => exact r.arbiter (List.mem_of_ne_of_mem (Ne.symm other) taken)
  · intro taken l
    rw [moved .grants (by decide), grants]
    split
    · rw [params]; exact resetGrants_get _ l
    case isFalse other => exact r.grants (List.mem_of_ne_of_mem (Ne.symm other) taken) l
  · intro taken l
    rw [moved .links (by decide), links]
    split
    · rw [softLink_get, softLink_eq]; exact ⟨rfl, rfl, rfl, rfl⟩
    case isFalse other => exact r.links (List.mem_of_ne_of_mem (Ne.symm other) taken) l

theorem takeReset_resets {s : State} {b : Block} (mem : b ∈ s.resets) : (s.takeReset b).resets = s.resets.erase b := by
  rw [takeReset_of_mem mem, finishSoftReset_changesOnly _ .resets (by decide), resetBlock_resets]

theorem afterCommands_cons {s t : State} {c : Instr} {cs : List Instr} (run : exec c s = .next t) :
    s.afterCommands (c :: cs) = t.afterCommands cs := by
  rw [State.afterCommands, List.foldl_cons, run]
  rfl

/-- The blocks that have been handed a reset take theirs, one after the other. -/
theorem Resetting.afterCommands {start : State} (running : start.resetN = true) {order : List Block} :
    ∀ {done : List Block} {u : State}, Resetting start done u → order.Perm u.resets →
      ∃ done', (∀ b, b ∈ order ∨ b ∈ done → b ∈ done') ∧ Resetting start done' (u.afterCommands (order.map .softResetBlock)) ∧
        (u.afterCommands (order.map .softResetBlock)).resets = [] := by
  induction order with
  | nil =>
    intro done u r perm
    exact ⟨done, fun b h => h.resolve_left List.not_mem_nil, r, List.nil_perm.mp perm⟩
  | cons b order ih =>
    intro done u r perm
    have mem : b ∈ u.resets := perm.subset (List.mem_cons_self ..)
    have run := exec_softResetBlock (s := u) ((r.kept .resetN (by decide)).trans running) b
    have rest : order.Perm (u.takeReset b).resets := by
      rw [takeReset_resets mem]
      exact (List.cons_perm_iff_perm_erase.mp perm).2
    obtain ⟨done', all, taken, none⟩ := ih (r.take mem) rest
    rw [List.map_cons, afterCommands_cons run]
    refine ⟨done', fun c h => all c ?_, taken, none⟩
    rcases h with h | h
    · rcases List.mem_cons.mp h with rfl | h
      · exact .inr (List.mem_cons_self ..)
      · exact .inl h
    · exact .inr (List.mem_cons_of_mem _ h)

/-- The state right after SOFT RESET is in a soft reset that no block but the CPA has taken. -/
theorem resetting_start (s : State) : Resetting s.startSoftReset [.cpa] s.startSoftReset where
  kept := .refl _ _
  finished := nofun
  handed h mem := by
    have other : (h.receiver != .cpa) = true := (List.mem_filter.mp mem).2
    simpa using other
  tracker := nofun
  table := nofun
  coverage := nofun
  stations := nofun
  plans := nofun
  arbiter := nofun
  grants := nofun
  links := nofun

theorem exec_softReset {s : State} (ready : s.ready = true) :
    exec .softReset s = .next ({ s with sdo := s.response.shiftOut (s.clocksOf .softReset) } : State).startSoftReset := by
  show execSoftReset s = _
  rw [execSoftReset, State.port?, if_pos ready]

theorem Block.mem_all (b : Block) : b ∈ [Block.ctk, .ift, .svi, .stb, .pls, .gre, .lli] ∨ b ∈ [Block.cpa] := by
  cases b <;> decide

/-- Settles O13: the command and one block's taking by the model's own equations, the whole by induction on the blocks that
have still to take their reset. -/
theorem softResetIsTakenByEveryBlock : Obligations.SoftResetIsTakenByEveryBlock := by
  unfold Obligations.SoftResetIsTakenByEveryBlock
  refine ⟨fun s ready => exec_softReset ready, fun s b running out => ?_, fun s b running mem => ?_, fun s order running ready perm => ?_⟩
  · rw [exec_softResetBlock running, takeReset_of_not_mem out]
  · obtain ⟨handed, tracker, table, coverage, stations, plans, arbiter, grants, links⟩ := resetBlock_fields s b
    have moved := finishSoftReset_changesOnly (s.resetBlock b)
    rw [← takeReset_of_mem mem] at moved
    have own := takeReset_changesOnly_any s b
    refine ⟨_, exec_softResetBlock running b, takeReset_resets mem, (moved .handed (by decide)).trans handed, fun none => ?_,
      fun some => ?_, (moved .tracker (by decide)).trans tracker, fun k => ?_, (moved .coverage (by decide)).trans coverage,
      (moved .stations (by decide)).trans stations, (moved .plans (by decide)).trans plans, (moved .arbiter (by decide)).trans arbiter,
      fun l => ?_, fun l => ?_, ?_⟩
    · rw [takeReset_of_mem mem] at none ⊢
      rw [finishSoftReset_changesOnly _ .resets (by decide)] at none
      exact finishSoftReset_of_nil none
    · rw [takeReset_of_mem mem] at some ⊢
      rw [finishSoftReset_changesOnly _ .resets (by decide)] at some
      rw [finishSoftReset_of_ne some]
      exact resetBlock_port s b
    · rw [moved .table (by decide), table]
      split
      · rw [Fin.getElem_fin, Vector.getElem_replicate]
      · split
        · exact s.removePhases_table k
        · rfl
    · rw [moved .grants (by decide), grants]
      split
      · exact resetGrants_get _ l
      · rfl
    · rw [moved .links (by decide), links]
      split
      · rw [softLink_get, softLink_eq]
      · rfl
    · exact ⟨own .airTime (by decide), own .tick (by decide), own .params (by decide), own .mode (by decide),
        own .startCause (by decide), own .flags (by decide), own .changed (by decide), own .advised (by decide), own .sdo (by decide),
        own .answer (by decide)⟩
  · generalize begun : ({ s with sdo := s.response.shiftOut (s.clocksOf .softReset) } : State).startSoftReset = u
    have start : Resetting u [.cpa] u := begun ▸ resetting_start _
    have resets : u.resets = [.ctk, .ift, .svi, .stb, .pls, .gre, .lli] := begun ▸ rfl
    have run : exec .softReset s = .next u := begun ▸ exec_softReset ready
    obtain ⟨done, all, taken, none⟩ := start.afterCommands (begun ▸ running) (resets ▸ perm)
    have every (b : Block) : b ∈ done := all b ((Block.mem_all b).imp_left fun mem => perm.symm.subset mem)
    rw [afterCommands_cons run]
    generalize u.afterCommands (order.map .softResetBlock) = t at taken none
    obtain ⟨kept, finished, handed, tracker, table, coverage, stations, plans, arbiter, grants, links⟩ := taken
    obtain ⟨high, response⟩ := finished none
    have same (p : Part) (h : p ∉ [Part.handed, .resets, .ready, .response, .tracker, .table, .coverage, .stations, .plans, .arbiter,
      .grants, .links]) : u.sameAt t p := kept p h
    have fixed : u.answer = Option.none ∧ u.mode = .run ∧ u.startCause = .soft ∧ u.flags = .clear ∧ u.changed = 0 ∧ u.advised = 0 ∧
        u.params = s.params ∧ u.airTime = s.airTime := begun ▸ ⟨rfl, rfl, rfl, rfl, rfl, rfl, rfl, rfl⟩
    obtain ⟨answer, mode, cause, flags, changed, advised, params, airTime⟩ := fixed
    have grants := grants (every .gre)
    rw [params] at grants
    have tracker := tracker (every .ctk)
    have table := table (every .ift)
    refine ⟨none, high, response, (same .answer (by decide)).trans answer, (same .mode (by decide)).trans mode,
      (same .startCause (by decide)).trans cause, (same .flags (by decide)).trans flags, (same .changed (by decide)).trans changed,
      (same .advised (by decide)).trans advised, ?_, tracker, table, coverage (every .svi), stations (every .stb), plans (every .pls),
      arbiter (every .gre), grants, links (every .lli), (same .params (by decide)).trans params,
      (same .airTime (by decide)).trans airTime, ⟨fun k h => ?_, fun _ k r h => ?_⟩, fun l _ => ?_⟩
    · exact List.eq_nil_iff_forall_not_mem.mpr fun h mem => handed h mem (every _)
    · rw [tracker] at h; cases h
    · rw [table, Fin.getElem_fin, Vector.getElem_replicate] at h; cases h
    · rw [grants l]; rfl

end Sys2Proof.Machine

/-! The lane links' events as equations (R154 to R166): what arrives, what is turned away, the restart by HELLO, and the message
that leaves. -/

namespace Sys2Proof.Machine

open Sys2Proof

/-! ## The link-fault latch and the queue -/

namespace State

variable {s : State} {l : Lane}

theorem setLink_same {k : LinkLane} (h : s.links.get l = k) : s.setLink l k = s := by
  rw [setLink, ← h, PerLane.set_get]

theorem faultLink_of_none (settled : s.resets = []) :
    s.faultLink l = { s with
      links := s.links.set l { s.links.get l with latch := true }
      handed := s.handed ++ if (s.links.get l).latch then [] else [.attentionSetRequest (.lane .linkFault l)] } := by
  unfold faultLink
  dsimp only
  split
  case isTrue latched =>
    have same : { s.links.get l with latch := true } = s.links.get l := by rw [← latched]
    rw [same, PerLane.set_get, List.append_nil]
  case isFalse => rw [request_of_none _ ((s.setLink_resets l _).trans settled)]; rfl

theorem sendOut_of_full (settled : s.resets = []) (src : Block) (m : OutMsg) (full : 16 ≤ (s.links.get l).outbound.length) :
    s.sendOut src l m = s.faultLink l := by
  unfold sendOut
  rw [crossesReset_of_none s settled, if_neg Bool.false_ne_true]
  exact if_neg (Nat.not_lt.mpr full)

/-- The count of check failures moves while the latch is clear, and the third failure sets it (R158). -/
theorem countFailure_of_none (settled : s.resets = []) :
    s.countFailure l = { s with
      links := s.links.set l { s.links.get l with
        failures := if (s.links.get l).latch then (s.links.get l).failures else (s.links.get l).failures + 1
        latch := (s.links.get l).latch || decide (3 ≤ (s.links.get l).failures + 1) }
      handed := s.handed ++ if !(s.links.get l).latch && decide (3 ≤ (s.links.get l).failures + 1) then
        [.attentionSetRequest (.lane .linkFault l)] else [] } := by
  unfold countFailure
  dsimp only
  cases latch : (s.links.get l).latch with
  | true =>
    have same : { s.links.get l with latch := true } = s.links.get l := by rw [← latch]
    simp [same]
  | false =>
    by_cases few : (s.links.get l).failures + 1 < 3
    · have clear : { s.links.get l with failures := (s.links.get l).failures + 1, latch := false } =
          { s.links.get l with failures := (s.links.get l).failures + 1 } := by rw [← latch]
      simp [Config.failureLimit, few, Nat.not_le.mpr few, clear, setLink]
    · have third : 3 ≤ (s.links.get l).failures + 1 := Nat.not_lt.mp few
      simp only [Config.failureLimit, few, if_false, third, decide_true, Bool.or_true, Bool.not_false, Bool.and_true, if_true]
      rw [faultLink_of_none ((s.setLink_resets l _).trans settled)]
      simp

end State

/-! ## The end of a reception -/

namespace State

variable {s : State} {l : Lane}

/-- HOLD held the message back, as it stood when the message began (R159, R160). -/
def heldBack (s : State) (l : Lane) : Bool :=
  match (s.links.get l).reception with
  | .idle => s.hold l
  | .inProgress hold holdoff => holdoff && hold
  | .awaitingGap => false

/-- A message that ends outside the wait for a gap arrives, with HOLD and the holdoff setting as noted. -/
theorem endReception_eq (waits : (s.links.get l).reception ≠ .awaitingGap) (bytes : List Byte) :
    ∃ hold holdoff, s.endReception l bytes = (s.setReception l .idle).arrive l hold holdoff bytes ∧
      (holdoff && hold) = s.heldBack l := by
  unfold endReception heldBack
  cases reception : (s.links.get l).reception with
  | idle =>
    refine ⟨s.hold l, s.params.holdoff.get l, ?_, by simp [hold]⟩
    have same : s.setReception l .idle = s := setLink_same (by rw [← reception])
    rw [same]
  | inProgress hold holdoff => exact ⟨hold, holdoff, rfl, rfl⟩
  | awaitingGap => exact absurd reception waits

end State

theorem exec_ends {s : State} {l : Lane} (running : s.resetN = true) (bytes : List Byte) :
    exec (.laneMessageArrival l (.ends bytes)) s = .next (s.endReception l bytes) :=
  event_of_running s (fun s => s.endReception l bytes) running

theorem linkNak_of_full {s : State} {l : Lane} (settled : s.resets = []) (r : NakReason) (kind : Byte)
    (full : 16 ≤ (s.links.get l).outbound.length) :
    s.linkNak l r kind = { s with
      links := s.links.set l { s.links.get l with latch := true }
      handed := s.handed ++ if (s.links.get l).latch then [] else [.attentionSetRequest (.lane .linkFault l)] } := by
  rw [State.linkNak, State.sendOut_of_full settled _ _ full, State.faultLink_of_none settled]

theorem linkNak_of_room {s : State} {l : Lane} (settled : s.resets = []) (r : NakReason) (kind : Byte)
    (room : (s.links.get l).outbound.length < 16) :
    s.linkNak l r kind = { s with
      links := s.links.set l { s.links.get l with outbound := (s.links.get l).outbound ++ [.nak r kind] } } :=
  s.sendOut_of_room settled .lli l (.nak r kind) room

/-- Settles O14: the count moves first, and the NAK then meets a queue with room or a full one. -/
theorem failedCheckIsAnsweredAndCounted : Obligations.FailedCheckIsAnsweredAndCounted := by
  unfold Obligations.FailedCheckIsAnsweredAndCounted
  intro s l bytes running settled waits bad
  obtain ⟨hold, holdoff, arrives, -⟩ := s.endReception_eq waits bytes
  rw [exec_ends running, arrives, State.arrive, if_neg (by simp [bad]),
    State.countFailure_of_none (s := s.setReception l .idle) settled]
  dsimp only
  by_cases room : (s.links.get l).outbound.length < 16
  · rw [linkNak_of_room (by exact settled) _ _ (by simpa [State.setReception] using room)]
    cases latch : (s.links.get l).latch <;> simp [State.setReception, room, Nat.not_le.mpr room, latch]
  · have full := Nat.not_lt.mp room
    rw [linkNak_of_full (by exact settled) _ _ (by simpa [State.setReception] using full)]
    cases latch : (s.links.get l).latch <;> by_cases third : 3 ≤ (s.links.get l).failures + 1 <;>
      simp [State.setReception, room, full, latch, third]

/-! ## Whole messages -/

@[simp] theorem InKind.ofByte?_byte (k : InKind) : InKind.ofByte? k.byte = some k := by cases k <;> decide

theorem InKind.byte_of_ofByte? {b : Byte} {k : InKind} (h : InKind.ofByte? b = some k) : k.byte = b := by
  unfold InKind.ofByte? at h
  split_ifs at h <;> cases h <;> exact Eq.symm ‹_›

theorem InKind.le_of_allows {k : InKind} {n : Nat} (h : k.allows n = true) : n ≤ 255 := by
  cases k <;> simp [InKind.allows] at h <;> omega

/-- A whole message is sorted by its kind and body once the failure count is clear (R157, Table 9-4). -/
theorem arrive_message (s : State) (l : Lane) (hold holdoff : Bool) (kind : Byte) {body : List Byte} (fits : body.length ≤ 255) :
    s.arrive l hold holdoff (withCheck (kind :: natByte body.length :: body)) =
      (s.clearFailures l).sortMessage l hold holdoff kind body := by
  have inner : ((withCheck (kind :: natByte body.length :: body)).drop 2).dropLast = body := by simp [withCheck]
  rw [State.arrive, if_pos (passesCheck_withCheck kind body fits), inner]
  rfl

/-- What a whole message is sorted in: the receiver idle, and the failure count 0 unless the latch is set. -/
def State.sorting (s : State) (l : Lane) : State :=
  s.setLink l { s.links.get l with
    failures := if (s.links.get l).latch then (s.links.get l).failures else 0, reception := .idle }

theorem clearFailures_setReception (s : State) (l : Lane) : (s.setReception l .idle).clearFailures l = s.sorting l := by
  unfold State.clearFailures State.setReception State.sorting
  cases latch : (s.links.get l).latch <;> simp [latch, State.setLink]

/-- The arrival of a whole message outside the wait for a gap. -/
theorem exec_message {s : State} {l : Lane} (running : s.resetN = true) (waits : (s.links.get l).reception ≠ .awaitingGap)
    (kind : Byte) {body : List Byte} (fits : body.length ≤ 255) :
    ∃ hold holdoff, exec (.laneMessageArrival l (.ends (withCheck (kind :: natByte body.length :: body)))) s =
        .next ((s.sorting l).sortMessage l hold holdoff kind body) ∧ (holdoff && hold) = s.heldBack l := by
  obtain ⟨hold, holdoff, arrives, held⟩ := s.endReception_eq waits (withCheck (kind :: natByte body.length :: body))
  refine ⟨hold, holdoff, ?_, held⟩
  rw [exec_ends running, arrives, arrive_message _ l _ _ _ fits, clearFailures_setReception]

theorem State.sorting_links (s : State) (l : Lane) : (s.sorting l).links.get l =
    { s.links.get l with failures := if (s.links.get l).latch then (s.links.get l).failures else 0, reception := .idle } := by
  simp [State.sorting]

/-- The held-back test of a message with an empty holder. -/
theorem heldBack_of_empty {s : State} {l : Lane} (empty : (s.links.get l).holder = none) :
    s.heldBack l = true ↔ (s.links.get l).reception = .inProgress true true := by
  unfold State.heldBack State.hold
  rw [empty]
  cases (s.links.get l).reception <;> simp [and_comm]

/-- Settles O15: the message passes every test of Table 9-4. -/
theorem goodMessageEntersHolder : Obligations.GoodMessageEntersHolder := by
  unfold Obligations.GoodMessageEntersHolder
  intro s l k body running waits clear empty other allowed enabled free
  have fits := InKind.le_of_allows allowed
  obtain ⟨hold, holdoff, run, held⟩ := exec_message running waits k.byte fits
  have notHeld : (holdoff && hold) = false := by
    rw [held, ← Bool.not_eq_true]
    exact fun back => free ((heldBack_of_empty empty).mp back)
  have links := s.sorting_links l
  rw [clear] at links
  rw [run, State.sortMessage, links, if_neg (by simp [clear]), InKind.ofByte?_byte]
  dsimp only
  rw [if_pos allowed, State.admitMessage, if_neg other, if_neg (by exact enabled), links, if_neg (by simp [empty, notHeld]), State.enterHolder, links]
  simp [State.sorting, State.setLink, clear]

/-- A NAK of the sorting leaves the message out of the holder. -/
theorem linkNak_sorting {s : State} {l : Lane} (settled : s.resets = []) (room : (s.links.get l).outbound.length < 16) (r : NakReason)
    (kind : Byte) :
    (s.sorting l).linkNak l r kind = { s with
      links := s.links.set l { s.links.get l with
        outbound := (s.links.get l).outbound ++ [.nak r kind]
        failures := if (s.links.get l).latch then (s.links.get l).failures else 0, reception := .idle } } := by
  have links := s.sorting_links l
  rw [linkNak_of_room (by exact settled) _ _ (by rw [links]; exact room), links]
  simp [State.sorting]

/-- Settles O16: the tests of Table 9-4 in their order, each with its NAK. -/
theorem messageTurnedAwayIsAnswered : Obligations.MessageTurnedAwayIsAnswered := by
  unfold Obligations.MessageTurnedAwayIsAnswered
  intro s l kind body reason running settled waits fits room why
  obtain ⟨hold, holdoff, run, held⟩ := exec_message running waits kind fits
  have links := s.sorting_links l
  have latch : ((s.sorting l).links.get l).latch = (s.links.get l).latch := by rw [links]
  have nak : (s.sorting l).sortMessage l hold holdoff kind body = (s.sorting l).linkNak l reason kind := by
    unfold State.sortMessage
    rw [latch]
    obtain ⟨⟨set, other⟩, rfl⟩ | ⟨open_, unknown, rfl⟩ | ⟨clear, rfl, allowed, disabled, rfl⟩ |
      ⟨clear, ⟨k, known, other, allowed, enabled⟩, occupied, rfl⟩ := why
    · exact if_pos (by simp [set, other])
    · have passes : ¬((s.links.get l).latch && kind != InKind.hello.byte) = true := by
        rcases open_ with clear | hello
        · simp [clear]
        · simp [hello]
      rw [if_neg passes]
      cases found : InKind.ofByte? kind with
      | none => rfl
      | some k => exact if_neg (by simp [unknown k found])
    · rw [clear, if_neg (by simp), InKind.ofByte?_byte]
      dsimp only
      rw [if_pos allowed, State.admitMessage, if_neg nofun]
      exact if_pos ⟨rfl, disabled⟩
    · have byte := InKind.byte_of_ofByte? known
      rw [clear, if_neg (by simp), known]
      dsimp only
      rw [if_pos allowed, State.admitMessage, if_neg other, if_neg (by exact enabled), byte, links]
      refine if_pos ?_
      rw [held, Bool.or_eq_true]
      exact occupied.imp id fun reception => by simp [State.heldBack, reception]
  rw [run, nak, linkNak_sorting settled room]

/-! ## Restart by HELLO, and the line -/

theorem helloAtLink_eq (s : State) (l : Lane) : s.helloAtLink l = { s with
    links := s.links.set l { s.links.get l with
      holder := some ⟨.hello, [], s.airTime⟩, failures := 0, latch := false, outbound := [] } } := by
  simp [State.helloAtLink, State.restartLink, State.enterHolder, State.setLink]

theorem helloArrives_eq {s : State} {l : Lane} (waits : (s.links.get l).reception ≠ .awaitingGap) :
    s.helloArrives l = { s with
      links := s.links.set l { s.links.get l with
        holder := some ⟨.hello, [], s.airTime⟩, failures := 0, latch := false, outbound := [], reception := .idle } } := by
  unfold State.helloArrives
  cases reception : (s.links.get l).reception with
  | idle =>
    dsimp only
    rw [helloAtLink_eq]
    simp [reception]
  | inProgress hold holdoff =>
    dsimp only
    rw [helloAtLink_eq]
    simp [State.setReception]
  | awaitingGap => exact absurd reception waits

/-- A HELLO given by its bytes passes every test up to the restart. -/
theorem sortMessage_hello (s : State) (l : Lane) (hold holdoff : Bool) :
    s.sortMessage l hold holdoff InKind.hello.byte [] = s.helloAtLink l := by
  rw [State.sortMessage, if_neg (by simp), InKind.ofByte?_byte]
  rfl

/-- Settles O17: the link's events written out for each state of the receiver. -/
theorem receptionAndHelloAtTheLink : Obligations.ReceptionAndHelloAtTheLink := by
  unfold Obligations.ReceptionAndHelloAtTheLink
  refine ⟨fun s l => ?_, fun s l running waits => ?_, fun s l running => ⟨fun idle => ?_, fun gap => ⟨fun e => ?_, ?_, ?_⟩⟩⟩
  · rw [State.hold, Bool.and_eq_true, Option.isSome_iff_exists]
  · have arrival : exec (.helloArrival l) s = .next (s.helloArrives l) := event_of_running s (fun s => s.helloArrives l) running
    rw [arrival, helloArrives_eq waits]
    refine ⟨rfl, ?_⟩
    obtain ⟨hold, holdoff, run, -⟩ := exec_message running waits InKind.hello.byte (body := []) (Nat.zero_le _)
    refine run.trans ?_
    rw [sortMessage_hello, helloAtLink_eq]
    simp [State.sorting]
  · refine (event_of_running s (fun s => s.beginReception l) running).trans ?_
    rw [State.beginReception, idle]
    rfl
  · cases e with
    | firstByte =>
      refine (event_of_running s (fun s => s.beginReception l) running).trans ?_
      rw [State.beginReception, gap]
    | ends bytes =>
      rw [exec_ends running, State.endReception, gap]
  · refine (event_of_running s (fun s => s.helloArrives l) running).trans ?_
    rw [State.helloArrives, gap]
  · refine (event_of_running s (fun s => s.restartReception l) running).trans ?_
    rw [State.restartReception, gap]
    rfl

/-! ## What leaves on LnTXD -/

/-- Every outbound body fits the length byte. -/
theorem OutMsg.body_le (m : OutMsg) (now : AirTime) : (m.kindAndBody now).2.length ≤ 255 := by
  cases m <;> simp [OutMsg.kindAndBody, wordBytes_length, natHalf, halfBytes, PlanSpan.bytes]

theorem OutMsg.passesCheck_bytes (m : OutMsg) (now : AirTime) : passesCheck (m.bytes now) = true :=
  passesCheck_withCheck _ _ (m.body_le now)

/-- Settles O18: the head leaves the queue, and its bytes are framed with a check byte. -/
theorem headOfQueueIsSent : Obligations.HeadOfQueueIsSent := by
  unfold Obligations.HeadOfQueueIsSent
  intro s l m rest running queue
  refine ⟨(event_of_running s (fun s => s.sendHead l) running).trans ?_, m.passesCheck_bytes s.airTime, ?_⟩
  · rw [State.sendHead, queue]
    rfl
  · rintro lane band rfl
    rfl

end Sys2Proof.Machine

/-! What the Plan Stacks' operations come to on a settled part: the order of a switch sent or discarded, a switch begun,
the closing of a lane's grants and the restart of its edge guard (R105, R106, R109, R117, R119, R150). -/

namespace Sys2Proof.Machine

open Sys2Proof

namespace State

variable {s : State} {l : Lane}

/-! ## Orders (R105, R106) -/

/-- The deadline of a switch order sent now (R109). -/
def orderDeadline (s : State) : Option AirTime := some (after s.airTime (s.params.switchTimeout * 1000))

/-- An order with room for it in the lane's queue. -/
theorem sendOrder_of_room (settled : s.resets = []) (room : (s.links.get l).outbound.length < 16) (w : SwitchRecord)
    (state : PlanState) (n : Nat) : s.sendOrder l w state n = { s with
      links := s.links.set l { s.links.get l with
        outbound := (s.links.get l).outbound ++ [.switchOrder w.target s.params.switchCountdown] }
      plans := s.plans.set l { s.plans.get l with state := state, attempts := n, timeout := s.orderDeadline } } := by
  rw [sendOrder, sendOut_of_room s settled _ _ _ room]
  rfl

theorem firstOrder_of_switch {w : SwitchRecord} (switch : (s.plans.get l).switch = some w) :
    s.firstOrder l = s.sendOrder l w .switching 0 := by
  rw [firstOrder, switch]

/-- A switch begun while grants are outstanding drains the lane. -/
theorem beginSwitch_of_outstanding (some : (s.grants.get l).outstanding ≠ []) (w : SwitchRecord) :
    s.beginSwitch l w = s.setPlan l { s.plans.get l with state := .draining, switch := .some w, settle := none } :=
  if_neg (by simpa using some)

/-- A switch begun with no grant outstanding is ordered at once. -/
theorem beginSwitch_of_idle (none : (s.grants.get l).outstanding = []) (w : SwitchRecord) :
    s.beginSwitch l w =
      (s.setPlan l { s.plans.get l with state := .draining, switch := some w, settle := .none }).sendOrder l w .switching 0 := by
  refine (if_pos (by simpa using none)).trans (firstOrder_of_switch ?_)
  simp

theorem beginSwitch_of_room (settled : s.resets = []) (none : (s.grants.get l).outstanding = [])
    (room : (s.links.get l).outbound.length < 16) (w : SwitchRecord) : s.beginSwitch l w = { s with
      links := s.links.set l { s.links.get l with
        outbound := (s.links.get l).outbound ++ [.switchOrder w.target s.params.switchCountdown] }
      plans := s.plans.set l { s.plans.get l with
        state := .switching, attempts := 0, switch := some w, settle := .none, timeout := s.orderDeadline } } := by
  rw [beginSwitch_of_idle none, sendOrder_of_room (by exact settled) (by exact room)]
  simp [orderDeadline, setPlan]

/-- The restoration of a lane's top, its order finding room. -/
theorem restoreTop_of_room (settled : s.resets = []) (room : (s.links.get l).outbound.length < 16) {top : PlanEntry}
    (last : (s.plans.get l).stack.getLast? = some top) : s.restoreTop l = { s with
      links := s.links.set l { s.links.get l with
        outbound := (s.links.get l).outbound ++ [.switchOrder top.plan s.params.switchCountdown] }
      plans := s.plans.set l { s.plans.get l with
        state := .switching, attempts := 0, switch := some ⟨.restore, (s.plans.get l).stack.length, top.plan⟩
        settle := none, timeout := s.orderDeadline } } := by
  rw [restoreTop]
  dsimp only
  rw [PlanLane.top, last]
  dsimp only
  rw [firstOrder_of_switch (w := ⟨.restore, (s.plans.get l).stack.length, top.plan⟩) (by simp),
    sendOrder_of_room (by exact settled) (by exact room)]
  simp [orderDeadline, setPlan]

/-! ## Grants closed with their lane (R150) -/

/-- The last closure that closing every grant of a lane leaves. -/
def closedWithLane (g : GrantLane) : Option Closure :=
  match g.outstanding.getLast? with
  | some x => some ⟨x.id, .laneReset, none⟩
  | none => g.lastClosure

theorem closeLane_of_none (settled : s.resets = []) (l : Lane) : s.closeLane l = { s with
    grants := s.grants.set l { s.grants.get l with
      outstanding := [], lastClosure := closedWithLane (s.grants.get l) }
    handed := s.handed ++ if (s.grants.get l).outstanding = [] then [] else [.drainNotice l] } := by
  rw [closeLane, if_neg (by simp [crossesReset_of_none s settled]), closedWithLane]
  cases last : (s.grants.get l).outstanding.getLast? with
  | none =>
    have empty := List.getLast?_eq_none_iff.mp last
    have same : s.grants.set l { s.grants.get l with outstanding := [], lastClosure := (s.grants.get l).lastClosure } = s.grants :=
      (congrArg _ (by rw [← empty])).trans (PerLane.set_get _ _)
    simp only [same, empty, if_true, List.append_nil]
  | some x =>
    have occupied : (s.grants.get l).outstanding ≠ [] := by rintro empty; simp [empty] at last
    rw [if_neg occupied]
    exact hand_of_none _ (by exact settled) _ _

theorem moveGuard_of_none (settled : s.resets = []) (l : Lane) (n : Nat) : s.moveGuard l n = { s with
    grants := s.grants.set l { s.grants.get l with edgeGuard := n }
    handed := s.handed ++ if n = (s.grants.get l).edgeGuard then [] else [.guardChangeNotice l] } := by
  rw [moveGuard]
  by_cases same : n = (s.grants.get l).edgeGuard
  · subst same
    have same := PerLane.set_get s.grants l
    simp [same]
  · rw [if_neg same, if_neg same]
    exact hand_of_none _ (by exact settled) _ _

end State

end Sys2Proof.Machine

/-! The host commands on the stacks on a settled part, written out: PUSH, POP, CONTINUE, ENABLE and DISABLE (R112 to R114, R117,
R118). -/

namespace Sys2Proof.Machine

open Sys2Proof

/-- A lane's own number names it. -/
theorem withLane_byte (l : Lane) (s : State) (f : Lane → State × Response) : withLane l.byte s f = f l := by
  rw [withLane, Lane.ofByte?_byte]

/-- A number outside 0 to 2 is refused before any other check. -/
theorem withLane_of_outside {n : Byte} (outside : 3 ≤ n.toNat) (s : State) (f : Lane → State × Response) :
    withLane n s f = refuse s .badArgument := by
  rw [withLane, Lane.ofByte?_of_outside outside]

/-! ## CONTINUE -/

/-- Settles O28. -/
theorem continueResumesAHaltedLane : Obligations.ContinueResumesAHaltedLane := by
  unfold Obligations.ContinueResumesAHaltedLane
  intro s l ready
  constructor
  · exact fun halted => transact_of_ready _ s _ ready |>.trans (by rw [continueOwner, withLane_byte, if_pos halted]; rfl)
  · exact fun other => transact_of_ready _ s _ ready |>.trans (by rw [continueOwner, withLane_byte, if_neg other]; rfl)

/-! ## POP -/

/-- POP takes a lane only outside the states between plans. -/
theorem popOwner_eq (l : Lane) (s : State) : popOwner l.byte s =
    if (s.plans.get l).state.between then refuse s .busy
    else if (s.plans.get l).state = .disabled then
      if (s.plans.get l).stack.isEmpty then refuse s .emptyStack
      else (s.setPlan l { s.plans.get l with stack := (s.plans.get l).stack.dropLast },
        ⟨.done, [natByte ((s.plans.get l).stack.length - 1)]⟩)
    else popSwitch l s := withLane_byte l s _

theorem PlanState.between_iff (p : PlanState) : p.between = true ↔ p = .draining ∨ p = .switching ∨ p = .unsynced := by
  cases p <;> simp [PlanState.between]

/-- A POP that switches goes to the entry beneath the top. -/
theorem popSwitch_of_two {l : Lane} {s : State} {deep : List PlanEntry} {next top : PlanEntry}
    (stack : (s.plans.get l).stack = deep ++ [next, top]) :
    popSwitch l s = (s.beginSwitch l ⟨.pop, deep.length + 1, next.plan⟩, .done) := by
  have beneath : (deep ++ [next, top])[(deep ++ [next, top]).length - 2]? = some next := by simp
  rw [popSwitch, stack, if_neg (by simp), beneath]
  simp

/-- Settles O27: POP state by state. -/
theorem popRemovesOrSwitches : Obligations.PopRemovesOrSwitches := by
  unfold Obligations.PopRemovesOrSwitches
  intro s l ready
  have run : ∀ {r : State × Response}, popOwner l.byte s = r → exec (.pop l.byte) s = .next (r.1.answering (.pop l.byte) r.2) := by
    rintro r rfl
    exact transact_of_ready _ s _ ready
  rw [popOwner_eq] at run
  refine ⟨fun between => run (if_pos ((PlanState.between_iff _).mpr between)), fun off empty => ?_, fun below top off stack => ?_, fun on => ?_⟩
  · exact run (by rw [if_neg (by simp [off, PlanState.between]), if_pos off, if_pos (by simp [empty])])
  · refine (run (by rw [if_neg (by simp [off, PlanState.between]), if_pos off, if_neg (by simp [stack]), stack, List.dropLast_concat,
      List.length_append])).trans ?_
    rfl
  · have between : ¬(s.plans.get l).state.between = true := by
      rcases on with on | on <;> simp [on, PlanState.between]
    have enabled : (s.plans.get l).state ≠ .disabled := by
      rcases on with on | on <;> simp [on]
    rw [if_neg between, if_neg enabled] at run
    refine ⟨fun single => run (if_pos (by omega)), fun deep next top stack => ⟨fun some => ?_, fun none settled room => ?_⟩⟩
    · refine (run (popSwitch_of_two stack)).trans ?_
      rw [State.beginSwitch_of_outstanding some]
      rfl
    · refine (run (popSwitch_of_two stack)).trans ?_
      rw [State.beginSwitch_of_room settled none room]
      rfl

/-! ## ENABLE and DISABLE -/

theorem State.takeOutOfService_eq {s : State} (settled : s.resets = []) (l : Lane) : s.takeOutOfService l = { s with
    plans := s.plans.set l { s.plans.get l with state := .disabled, switch := none, timeout := none, settle := none, attempts := 0 }
    grants := s.grants.set l { s.grants.get l with outstanding := [], lastClosure := closedWithLane (s.grants.get l) }
    handed := s.handed ++ if (s.grants.get l).outstanding = [] then [] else [.drainNotice l] } := by
  rw [State.takeOutOfService, State.closeLane_of_none settled]
  rfl

/-- A WELCOME and the restoration of the top, with room for both messages. -/
theorem State.welcomeRestore_eq {s : State} {l : Lane} (settled : s.resets = []) (room : (s.links.get l).outbound.length + 2 ≤ 16)
    {top : PlanEntry} (last : (s.plans.get l).stack.getLast? = some top) : (s.sendWelcome l).restoreTop l = { s with
      links := s.links.set l { s.links.get l with
        outbound := (s.links.get l).outbound ++ [.welcome l (s.plans.get l).band, .switchOrder top.plan s.params.switchCountdown] }
      plans := s.plans.set l { s.plans.get l with
        state := .switching, attempts := 0, switch := some ⟨.restore, (s.plans.get l).stack.length, top.plan⟩
        settle := none, timeout := s.orderDeadline } } := by
  rw [State.sendWelcome, State.sendOut_of_room s settled _ _ _ (by omega),
    State.restoreTop_of_room (by exact settled) (by simp; omega) (by exact last)]
  simp [State.setLink, State.orderDeadline]

/-- Settles O29: ENABLE and DISABLE state by state. -/
theorem enableAndDisable : Obligations.EnableAndDisable := by
  unfold Obligations.EnableAndDisable
  intro s l ready settled
  have enable : ∀ r, enableOwner l.byte s = r → exec (.enable l.byte) s = .next (r.1.answering (.enable l.byte) r.2) := by
    rintro r rfl
    exact transact_of_ready _ s _ ready
  have disable : ∀ r, disableOwner l.byte s = r → exec (.disable l.byte) s = .next (r.1.answering (.disable l.byte) r.2) := by
    rintro r rfl
    exact transact_of_ready _ s _ ready
  rw [enableOwner, withLane_byte] at enable
  rw [disableOwner, withLane_byte] at disable
  dsimp only at enable
  refine ⟨fun on => enable _ (if_pos on), fun off empty => ?_, fun top off last room => ?_, fun off => disable _ (if_pos off), fun on => ?_⟩
  · exact enable _ (by rw [if_neg (by simp [off]), if_pos (by simp [empty])])
  · have some : ¬(s.plans.get l).stack.isEmpty = true := by rintro empty; simp_all
    rw [enable _ (by rw [if_neg (by simp [off]), if_neg some]), State.welcomeRestore_eq settled room last]
    rfl
  · rw [disable _ (if_neg on), State.takeOutOfService_eq settled]
    rfl

end Sys2Proof.Machine

/-! PUSH written out (R112), and what every command that names a lane answers to a number of none (R171). -/

namespace Sys2Proof.Machine

open Sys2Proof

/-- A lane number outside 0 to 2 is refused by every command of the Plan Stacks. -/
theorem exec_laneOutside {s : State} {n : Byte} {c : Instr} {f : State → Lane → State × Response} (ready : s.ready = true)
    (outside : 3 ≤ n.toNat) (run : exec c s = transact c s fun s => withLane n s (f s)) :
    exec c s = .next (s.answering c ⟨.badArgument, []⟩) :=
  run.trans (transact_refuse c s _ .badArgument ready (withLane_of_outside outside s (f s)))

/-- The notice of a shed entry. -/
def shedNotice (l : Lane) (stack : List PlanEntry) : List Handed :=
  if stack.length < 6 then [] else [.attentionSetRequest (.lane .stackShed l)]

/-- The state after a PUSH has placed its entry, before any switch. -/
def State.placed (s : State) (l : Lane) (p : PlanSpan) (tolerance : Nat) : State := { s with
  plans := s.plans.set l { s.plans.get l with
    band := p.band, stack := pushed (s.plans.get l).stack ⟨p, tolerance, .valid⟩ }
  handed := s.handed ++ shedNotice l (s.plans.get l).stack }

/-- A PUSH that passes every check of R112. -/
theorem pushChecked_placed {l : Lane} {p : PlanSpan} {tolerance : Nat} {s : State} (settled : s.resets = [])
    (still : ¬(s.plans.get l).state.between = true)
    (band : p.band = (s.plans.get l).band ∨ (s.plans.get l).state = .disabled ∧ (s.plans.get l).stack = [])
    (room : (s.plans.get l).stack.length < 6 ∨ s.params.overflowMask = true) :
    pushChecked l p tolerance s =
      (if (s.plans.get l).state = .disabled then s.placed l p tolerance
        else (s.placed l p tolerance).beginSwitch l
          ⟨.push, (pushed (s.plans.get l).stack ⟨p, tolerance, .valid⟩).length, p⟩,
        ⟨.done, [natByte (pushed (s.plans.get l).stack ⟨p, tolerance, .valid⟩).length,
          mark (decide (6 ≤ (s.plans.get l).stack.length))]⟩) := by
  rw [pushChecked]
  dsimp only
  have fits : ¬(p.band ≠ (s.plans.get l).band ∧
      ((s.plans.get l).state == .disabled && (s.plans.get l).stack.isEmpty) = false) := by
    rintro ⟨other, occupied⟩
    rcases band with same | ⟨off, empty⟩
    · exact other same
    · simp [off, empty] at occupied
  have takes : (if ((s.plans.get l).state == .disabled && (s.plans.get l).stack.isEmpty) = true then p.band
      else (s.plans.get l).band) = p.band := by
    rcases band with same | ⟨off, empty⟩
    · rw [same, ite_self]
    · simp [off, empty]
  have unmasked : ¬(decide (Config.stackDepth ≤ (s.plans.get l).stack.length) = true ∧ s.params.overflowMask = false) := by
    rintro ⟨full, clear⟩
    rcases room with less | masked
    · exact absurd (of_decide_eq_true full) (by simpa [Config.stackDepth] using less)
    · simp [masked] at clear
  have placed : (if decide (Config.stackDepth ≤ (s.plans.get l).stack.length) = true then
      (s.setPlan l { s.plans.get l with band := p.band, stack := pushed (s.plans.get l).stack ⟨p, tolerance, .valid⟩ }).request .pls
        (.lane .stackShed l)
      else s.setPlan l { s.plans.get l with band := p.band, stack := pushed (s.plans.get l).stack ⟨p, tolerance, .valid⟩ }) =
      s.placed l p tolerance := by
    by_cases less : (s.plans.get l).stack.length < 6
    · refine (if_neg (fun full => absurd (of_decide_eq_true full) (Nat.not_le_of_lt less))).trans ?_
      rw [State.placed, shedNotice, if_pos less, List.append_nil]
      rfl
    · refine (if_pos (decide_eq_true (Nat.le_of_not_lt less))).trans ?_
      rw [State.request_of_none _ (by exact settled), State.placed, shedNotice, if_neg less]
      rfl
  rw [if_neg still, if_neg fits, if_neg unmasked, takes, placed]
  rfl

/-- Settles O26: each check of PUSH in its order, then the placed entry and its switch. -/
theorem pushPlacesAnEntry : Obligations.PushPlacesAnEntry := by
  unfold Obligations.PushPlacesAnEntry
  refine ⟨fun s n tol plan c ready outside which => ?_, fun s l plan tol ready invalid => ?_, fun s l p tol ready settled valid => ?_⟩
  · obtain rfl | rfl | rfl | rfl | rfl | rfl := which <;> exact exec_laneOutside ready outside rfl
  · refine transact_refuse _ s _ .badArgument ready ?_
    rw [pushOwner, withLane_byte, planOf?_of_invalid invalid]
  · have run : ∀ r, pushOwner l.byte ⟨natByte p.primary, p.width.byte⟩ tol s = r →
        exec (.push l.byte ⟨natByte p.primary, p.width.byte⟩ tol) s =
          .next (r.1.answering (.push l.byte ⟨natByte p.primary, p.width.byte⟩ tol) r.2) := by
      rintro r rfl
      exact transact_of_ready _ s _ ready
    rw [pushOwner, withLane_byte, planOf?_bytes valid] at run
    dsimp only at run
    refine ⟨fun large => run _ (if_neg (by omega)), fun small => ?_⟩
    rw [if_pos small] at run
    simp only [← PlanState.between_iff]
    refine ⟨fun between => run _ (if_pos between), fun still other occupied => run (refuse s .badArgument) ?_, fun still band => ⟨fun full clear => run (refuse s .stackFull) ?_, fun room => ?_⟩⟩
    · rw [pushChecked, if_neg still]
      exact if_pos ⟨other, by simpa using occupied⟩
    · rw [pushChecked, if_neg still]
      refine (if_neg ?_).trans (if_pos ⟨decide_eq_true full, clear⟩)
      rintro ⟨other, occupied⟩
      exact band.elim other fun free => by simp [free.1, free.2] at occupied
    · rw [pushChecked_placed settled still band room] at run
      refine ⟨fun off => ?_, fun on some => ?_, fun on none space => ?_⟩
      · rw [run _ rfl, if_pos off]
        rfl
      · rw [run _ rfl, if_neg on, State.beginSwitch_of_outstanding (by exact some)]
        have same : p.band = (s.plans.get l).band := band.resolve_right fun free => on free.1
        rw [State.placed, same]
        simp only [State.setPlan, PerLane.get_set_same, PerLane.set_set]
        rfl
      · rw [run _ rfl, if_neg on, State.beginSwitch_of_room (by exact settled) (by exact none) (by exact space)]
        have same : p.band = (s.plans.get l).band := band.resolve_right fun free => on free.1
        rw [State.placed, same]
        simp only [PerLane.get_set_same, PerLane.set_set]
        rfl

end Sys2Proof.Machine

/-! The answers and timers of the switch protocol (R105 to R110), and the restart of a lane (R119, R150), written out on a
settled part. -/

namespace Sys2Proof.Machine

open Sys2Proof

/-- Two set requests handed one after the other. -/
theorem State.requestTwice_of_none {s : State} (settled : s.resets = []) (a b : Block) (f g : Flag) :
    (s.request a f).request b g = { s with handed := s.handed ++ [.attentionSetRequest f, .attentionSetRequest g] } := by
  rw [State.request_of_none s settled, State.request_of_none _ (by exact settled)]
  simp

/-! ## Held messages (R161) -/

theorem State.heldBody_of_none {s : State} (settled : s.resets = []) (owner : Block) (l : Lane) :
    s.heldBody owner l = (s.links.get l).holder.map (·.body) :=
  if_neg (by simp [State.crossesReset_of_none s settled])

theorem State.holds_of_some {s : State} {l : Lane} {m : Held} (holder : (s.links.get l).holder = some m) :
    s.holds l m.kind = true := by
  simp [State.holds, holder]

theorem State.takeHeldAnswer_of_held {s : State} (settled : s.resets = []) {l : Lane} {m : Held}
    (holder : (s.links.get l).holder = some m) (finish : State → SwitchRecord → State) :
    s.takeHeldAnswer l m.kind finish =
      match parsePlan m.body with
      | some p => (s.emptyHolder l).takeAnswer l p m.kind finish
      | none => (s.emptyHolder l).sendOut .pls l (.nak .malformed m.kind.byte) := by
  rw [State.takeHeldAnswer, if_pos (State.holds_of_some holder)]
  dsimp only
  rw [State.heldBody_of_none settled, holder]
  rfl

/-- The body that spells a valid plan span is read as that span. -/
theorem parsePlan_bytes {p : PlanSpan} (valid : p.valid = true) : parsePlan [natByte p.primary, p.width.byte] = some p :=
  planOf?_bytes valid

theorem parsePlan_of_invalid {body : List Byte} (invalid : ∀ p : PlanSpan, p.valid = true → body ≠ [natByte p.primary, p.width.byte]) :
    parsePlan body = none := by
  unfold parsePlan
  split
  · exact planOf?_of_invalid fun p valid same => invalid p valid (by simp_all [RawPlan.mk.injEq])
  · rfl

theorem PlanState.inFlight_iff (p : PlanState) : p.inFlight = true ↔ p = .switching ∨ p = .unsynced := by
  cases p <;> simp [PlanState.inFlight]

/-- An answer that carries the target of the order in flight ends it. -/
theorem State.takeAnswer_of_match {s : State} {l : Lane} {w : SwitchRecord} (switch : (s.plans.get l).switch = some w)
    (flight : (s.plans.get l).state = .switching ∨ (s.plans.get l).state = .unsynced) (kind : InKind)
    (finish : State → SwitchRecord → State) : s.takeAnswer l w.target kind finish = finish s w := by
  rw [State.takeAnswer, switch]
  exact if_pos ⟨(PlanState.inFlight_iff _).mpr flight, rfl⟩

/-- Any other answer is unexpected. -/
theorem State.takeAnswer_of_other {s : State} {l : Lane} {p : PlanSpan}
    (other : ∀ w, (s.plans.get l).switch = some w →
      ¬(((s.plans.get l).state = .switching ∨ (s.plans.get l).state = .unsynced) ∧ w.target = p)) (kind : InKind)
    (finish : State → SwitchRecord → State) : s.takeAnswer l p kind finish = s.sendOut .pls l (.nak .unexpected kind.byte) := by
  unfold State.takeAnswer
  cases switch : (s.plans.get l).switch with
  | none => rfl
  | some w => exact if_neg fun ⟨flight, target⟩ => other w switch ⟨(PlanState.inFlight_iff _).mp flight, target⟩

/-- A held switch answer that carries the target of the order in flight. -/
theorem takeHeldAnswer_of_match {s : State} (settled : s.resets = []) {l : Lane} {m : Held} {w : SwitchRecord}
    (holder : (s.links.get l).holder = some m) (body : m.body = [natByte w.target.primary, w.target.width.byte])
    (valid : w.target.valid = true) (flight : (s.plans.get l).state = .switching ∨ (s.plans.get l).state = .unsynced)
    (switch : (s.plans.get l).switch = some w) (finish : State → SwitchRecord → State) :
    s.takeHeldAnswer l m.kind finish = finish (s.emptyHolder l) w := by
  rw [State.takeHeldAnswer_of_held settled holder, body, parsePlan_bytes valid]
  exact State.takeAnswer_of_match (by exact switch) (by exact flight) _ _

/-! ## SWITCH_DONE and SWITCH_FAILED -/

theorem exec_switchDone {s : State} (running : s.resetN = true) (l : Lane) :
    exec (.switchDone l) s = .next (s.takeHeldAnswer l .switchDone fun s w => s.completeSwitch l w) :=
  event_of_running s (fun s => s.takeHeldAnswer l .switchDone fun s w => s.completeSwitch l w) running

theorem exec_switchFailed {s : State} (running : s.resetN = true) (l : Lane) :
    exec (.switchFailed l) s = .next (s.takeHeldAnswer l .switchFailed fun s w => s.failSwitch l w) :=
  event_of_running s (fun s => s.takeHeldAnswer l .switchFailed fun s w => s.failSwitch l w) running

/-- The entry at a position of a stack takes a tag. -/
theorem tagAt_split (beneath above : List PlanEntry) (e : PlanEntry) (t : Tag) :
    tagAt (beneath ++ e :: above) (beneath.length + 1) t = beneath ++ { e with tag := t } :: above := by
  induction beneath with
  | nil => rfl
  | cons x beneath ih => simpa [tagAt] using ih

theorem eraseIdx_split (beneath above : List PlanEntry) (e : PlanEntry) :
    (beneath ++ e :: above).eraseIdx (beneath.length + 1 - 1) = beneath ++ above := by
  simp [List.eraseIdx_append_of_length_le]

/-- Settles O22. -/
theorem switchDoneCompletesTheSwitch : Obligations.SwitchDoneCompletesTheSwitch := by
  unfold Obligations.SwitchDoneCompletesTheSwitch
  intro s l m w beneath above e running settled holder kind body valid flight switch stack position
  rw [exec_switchDone running, ← kind, takeHeldAnswer_of_match settled holder body valid flight switch, State.completeSwitch]
  have moved : tagAt ((s.plans.get l).stack.take w.position) w.position .valid = beneath ++ [{ e with tag := .valid }] := by
    rw [stack, position, List.take_length_add_append, List.take_succ_cons, List.take_zero, tagAt_split]
  have plans : (s.emptyHolder l).plans = s.plans := rfl
  dsimp only
  rw [plans, moved]
  by_cases fallback : w.kind = .fallback
  · rw [if_pos fallback, if_pos fallback, State.request_of_none _ (by exact settled)]
    rfl
  · rw [if_neg fallback, if_neg fallback]
    rfl

/-- Settles O23: the failed switch by its kind. -/
theorem switchFailedActsByKind : Obligations.SwitchFailedActsByKind := by
  unfold Obligations.SwitchFailedActsByKind
  intro s l m w beneath above e running settled holder kind body valid flight switch stack position
  have run : exec (.switchFailed l) s = .next ((s.emptyHolder l).failSwitch l w) := by
    rw [exec_switchFailed running, ← kind, takeHeldAnswer_of_match settled holder body valid flight switch]
  rw [run, State.failSwitch]
  have plans : (s.emptyHolder l).plans = s.plans := rfl
  dsimp only
  rw [plans]
  refine ⟨fun restore => ?_, fun other => ?_⟩
  · have failed : State.failedStack (s.plans.get l).stack w = beneath ++ { e with tag := .stale } :: above := by
      rw [State.failedStack, restore, stack, position]
      exact tagAt_split beneath above e .stale
    rw [failed, if_pos restore, State.requestTwice_of_none (by exact settled)]
    rfl
  · have failed : State.failedStack (s.plans.get l).stack w =
        if w.kind = .pop then beneath ++ { e with tag := .stale } :: above else beneath ++ above := by
      rw [State.failedStack, stack, position]
      cases which : w.kind with
      | fallback => exact eraseIdx_split beneath above e
      | push => exact eraseIdx_split beneath above e
      | pop => exact tagAt_split beneath above e .stale
      | restore => exact absurd which other
    rw [failed, if_neg other, State.request_of_none _ (by exact settled)]
    rfl

/-- Settles O24. -/
theorem unmatchedSwitchAnswerIsNaked : Obligations.UnmatchedSwitchAnswerIsNaked := by
  unfold Obligations.UnmatchedSwitchAnswerIsNaked
  intro s l m c running settled holder room which
  obtain ⟨finish, run⟩ : ∃ finish, exec c s = .next (s.takeHeldAnswer l m.kind finish) := by
    obtain ⟨kind, rfl⟩ | ⟨kind, rfl⟩ := which
    · exact ⟨_, kind.symm ▸ exec_switchDone running l⟩
    · exact ⟨_, kind.symm ▸ exec_switchFailed running l⟩
  have nak : ∀ r, (s.emptyHolder l).sendOut .pls l (.nak r m.kind.byte) = { s with
      links := s.links.set l { s.links.get l with
        holder := none, outbound := (s.links.get l).outbound ++ [.nak r m.kind.byte] } } := by
    intro r
    rw [State.sendOut_of_room _ (by exact settled) _ _ _ (by simpa [State.emptyHolder] using room)]
    simp [State.emptyHolder, State.setLink]
  rw [run, State.takeHeldAnswer_of_held settled holder]
  refine ⟨fun p valid body other => ?_, fun invalid => ?_⟩
  · rw [body, parsePlan_bytes valid]
    exact congrArg _ ((State.takeAnswer_of_other (by exact other) _ _).trans (nak .unexpected))
  · rw [parsePlan_of_invalid invalid]
    exact congrArg _ (nak .malformed)

/-! ## Drain notices and the switch timeout -/

/-- Settles O25. -/
theorem drainAndTimeoutSendTheOrder : Obligations.DrainAndTimeoutSendTheOrder := by
  unfold Obligations.DrainAndTimeoutSendTheOrder
  refine ⟨fun s l running settled => ?_, fun s l d w running settled flight timeout due switch => ?_⟩
  · have run : exec (.drainNotice l) s = .next ((s.taking (.drainNotice l)).takeDrain l) :=
      event_of_running s (fun s => (s.taking (.drainNotice l)).takeDrain l) running
    rw [run]
    refine ⟨fun other => congrArg _ (if_neg other), fun w draining switch room => ?_⟩
    rw [State.takeDrain, if_pos (by exact draining), State.firstOrder_of_switch (by exact switch),
      State.sendOrder_of_room (by exact settled) (by exact room)]
    rfl
  · have run : exec (.switchTimeout l) s = .next (s.expireSwitch l) := event_of_running s (fun s => s.expireSwitch l) running
    have expired : ((s.plans.get l).state.inFlight && reached s.airTime (s.plans.get l).timeout) = true := by
      rw [(PlanState.inFlight_iff _).mpr flight, timeout]
      exact due
    rw [run, State.expireSwitch]
    dsimp only
    rw [if_pos expired, switch]
    dsimp only
    refine ⟨fun less room => ?_, fun enough => ?_⟩
    · rw [if_pos less, State.sendOrder_of_room settled room]
      simp [State.orderDeadline, switch]
    · rw [if_neg (Nat.not_lt_of_le enough), State.requestTwice_of_none (by exact settled)]
      rfl

/-! ## The restart of a lane (R119, R150) -/

/-- The lane's grants after its restart. -/
def State.restartedGrants (s : State) (l : Lane) : GrantLane := { s.grants.get l with
  outstanding := [], edgeGuard := s.params.guardInitial, okRun := 0, lastClosure := State.closedWithLane (s.grants.get l) }

/-- The notices of a lane's restart. -/
def State.restartNotices (s : State) (l : Lane) : List Handed :=
  (if (s.grants.get l).outstanding = [] then [] else [.drainNotice l]) ++
    if s.params.guardInitial = (s.grants.get l).edgeGuard then [] else [.guardChangeNotice l]

/-- The Grant Engine's part in the restart of a lane. -/
theorem State.closeLane_resetGuard {s : State} (settled : s.resets = []) (l : Lane) : (s.closeLane l).resetGuard l = { s with
    grants := s.grants.set l (s.restartedGrants l), handed := s.handed ++ s.restartNotices l } := by
  rw [State.closeLane_of_none settled, State.resetGuard, if_neg (by rw [State.crossesReset_of_none _ (by exact settled)]; nofun),
    State.moveGuard_of_none (by exact settled)]
  simp [State.setOkRun, State.setGrant, State.restartedGrants, State.restartNotices]

/-- The restart of a DISABLED lane. -/
theorem State.restartLane_of_disabled {s : State} (settled : s.resets = []) {l : Lane} (off : (s.plans.get l).state = .disabled)
    (room : (s.links.get l).outbound.length < 16) : s.restartLane l = { s with
      grants := s.grants.set l (s.restartedGrants l), handed := s.handed ++ s.restartNotices l
      links := s.links.set l { s.links.get l with
        outbound := (s.links.get l).outbound ++ [.welcome l (s.plans.get l).band] } } := by
  rw [State.restartLane, State.closeLane_resetGuard settled]
  refine (if_pos off).trans ?_
  exact State.sendOut_of_room _ (by exact settled) _ _ _ (by exact room)

/-- The restart of an enabled lane. -/
theorem State.restartLane_of_enabled {s : State} (settled : s.resets = []) {l : Lane} (on : (s.plans.get l).state ≠ .disabled)
    {top : PlanEntry} (last : (s.plans.get l).stack.getLast? = some top) (room : (s.links.get l).outbound.length + 2 ≤ 16) :
    s.restartLane l = { s with
      grants := s.grants.set l (s.restartedGrants l), handed := s.handed ++ s.restartNotices l
      plans := s.plans.set l { s.plans.get l with
        state := .switching, attempts := 0, switch := some ⟨.restore, (s.plans.get l).stack.length, top.plan⟩
        settle := none, timeout := s.orderDeadline }
      links := s.links.set l { s.links.get l with
        outbound := (s.links.get l).outbound ++
          [.welcome l (s.plans.get l).band, .switchOrder top.plan s.params.switchCountdown] } } := by
  rw [State.restartLane, State.closeLane_resetGuard settled]
  refine (if_neg on).trans ?_
  rw [State.welcomeRestore_eq (by exact settled) (by exact room) (top := top) (by simpa [State.setPlan] using last)]
  simp [State.setPlan, State.orderDeadline]

theorem exec_hello {s : State} (running : s.resetN = true) (settled : s.resets = []) {l : Lane} {m : Held}
    (holder : (s.links.get l).holder = some m) (kind : m.kind = .hello) :
    exec (.hello l) s = .next ((s.emptyHolder l).restartLane l) := by
  refine (event_of_running s _ running).trans ?_
  rw [if_pos (kind ▸ State.holds_of_some holder)]
  dsimp only
  rw [State.heldBody_of_none settled, holder]
  rfl

/-- Settles O19: the restart by HELLO and by LANE RESET. -/
theorem helloAndLaneResetRestartTheLane : Obligations.HelloAndLaneResetRestartTheLane := by
  unfold Obligations.HelloAndLaneResetRestartTheLane
  intro s l settled
  refine ⟨fun m running holder kind room => ?_, fun ready => ?_⟩
  · rw [exec_hello running settled holder kind]
    have queue : ((s.emptyHolder l).links.get l).outbound = (s.links.get l).outbound := by simp [State.emptyHolder]
    refine ⟨fun off => ?_, fun top on last => ?_⟩
    · rw [State.restartLane_of_disabled (by exact settled) (by exact off) (by rw [queue]; omega)]
      simp only [State.emptyHolder, State.setLink, State.restartNotices, PerLane.get_set_same, PerLane.set_set, ← List.append_assoc]
      rfl
    · rw [State.restartLane_of_enabled (by exact settled) (by exact on) (by exact last) (by rw [queue]; omega)]
      simp only [State.emptyHolder, State.setLink, State.restartNotices, PerLane.get_set_same, PerLane.set_set, ← List.append_assoc]
      rfl
  · have run : exec (.laneReset l.byte) s = .next (((s.restartLink l).restartLane l).answering (.laneReset l.byte) .done) := by
      refine (transact_of_ready _ s _ ready).trans ?_
      rw [laneResetOwner, withLane_byte]
    rw [run]
    have queue : ((s.restartLink l).links.get l).outbound = [] := by simp [State.restartLink]
    refine ⟨fun off => ?_, fun top on last => ?_⟩
    · rw [State.restartLane_of_disabled (by exact settled) (by exact off) (by simp [queue])]
      simp only [State.restartLink, State.setLink, State.restartNotices, PerLane.get_set_same, PerLane.set_set, ← List.append_assoc]
      rfl
    · rw [State.restartLane_of_enabled (by exact settled) (by exact on) (by exact last) (by simp [queue])]
      simp only [State.restartLink, State.setLink, State.restartNotices, PerLane.get_set_same, PerLane.set_set, ← List.append_assoc]
      rfl

end Sys2Proof.Machine

/-! A judgement of a lane (R101 to R104): what the lane, its link and the handed work become, said as one value that reads the
lane alone; hence the judgements of a notice, lane by lane. -/

namespace Sys2Proof.Machine

open Sys2Proof

/-! ## The fallback search (R103) -/

/-- An entry that the search has passed: STALE unless UNKNOWN. -/
def PlanEntry.passedBy (q : PlanSpan → Option Nat) (e : PlanEntry) : PlanEntry :=
  if (q e.plan).isSome then { e with tag := .stale } else e

/-- The search takes no entry that is UNKNOWN or below its tolerance. -/
theorem searchDown_cons_of_passed {q : PlanSpan → Option Nat} {e : PlanEntry} (low : ∀ x, q e.plan = some x → x < e.tolerance)
    (rest : List PlanEntry) :
    searchDown q (e :: rest) = (e.passedBy q :: (searchDown q rest).1, (searchDown q rest).2) := by
  rw [searchDown, PlanEntry.passedBy]
  cases known : q e.plan with
  | none => rfl
  | some x => exact if_neg (Nat.not_le_of_lt (low x known))

theorem searchDown_of_passed {q : PlanSpan → Option Nat} {passed : List PlanEntry}
    (low : ∀ e ∈ passed, ∀ x, q e.plan = some x → x < e.tolerance) :
    searchDown q passed = (passed.map (·.passedBy q), none) := by
  induction passed with
  | nil => rfl
  | cons e passed ih =>
    rw [searchDown_cons_of_passed (low e List.mem_cons_self), ih fun e mem => low e (List.mem_cons_of_mem _ mem)]
    rfl

theorem searchDown_of_found {q : PlanSpan → Option Nat} {passed : List PlanEntry} {c : PlanEntry} {x : Nat}
    (low : ∀ e ∈ passed, ∀ x, q e.plan = some x → x < e.tolerance) (known : q c.plan = some x) (high : c.tolerance ≤ x)
    (beneath : List PlanEntry) :
    searchDown q (passed ++ c :: beneath) = (passed.map (·.passedBy q) ++ c :: beneath, some (beneath.length + 1)) := by
  induction passed with
  | nil =>
    rw [List.nil_append, searchDown, known]
    exact if_pos high
  | cons e passed ih =>
    rw [List.cons_append, searchDown_cons_of_passed (low e List.mem_cons_self),
      ih fun e mem => low e (List.mem_cons_of_mem _ mem)]
    rfl

/-! ## One lane's judgement -/

/-- What a judgement makes of a lane, of its link, and the work it hands. -/
structure Verdict where
  lane : PlanLane
  link : LinkLane
  work : List Handed

namespace State

variable {s : State} {l : Lane}

/-- The state after a lane's judgement. -/
def becoming (s : State) (l : Lane) (v : Verdict) : State := { s with
  plans := s.plans.set l v.lane, links := s.links.set l v.link, handed := s.handed ++ v.work }

/-- A verdict that changes the lane's stack alone. -/
def keeping (s : State) (l : Lane) (lane : PlanLane) : Verdict := ⟨lane, s.links.get l, []⟩

theorem becoming_keeping (s : State) (l : Lane) (lane : PlanLane) : s.becoming l (s.keeping l lane) = s.setPlan l lane := by
  simp [becoming, keeping, setPlan]

/-- A switch of a lane begins: an order sent into a full queue is discarded and sets the latch (R105, R163). -/
def switching (s : State) (l : Lane) (lane : PlanLane) (w : SwitchRecord) : Verdict :=
  if (s.grants.get l).outstanding = [] then
    { lane := { lane with state := .switching, switch := some w, settle := none, attempts := 0, timeout := s.orderDeadline }
      link := if (s.links.get l).outbound.length < 16 then
          { s.links.get l with outbound := (s.links.get l).outbound ++ [.switchOrder w.target s.params.switchCountdown] }
        else { s.links.get l with latch := true }
      work := if 16 ≤ (s.links.get l).outbound.length ∧ (s.links.get l).latch = false then
          [.attentionSetRequest (.lane .linkFault l)] else [] }
  else s.keeping l { lane with state := .draining, switch := some w, settle := none }

/-- A lane with no acceptable entry (R104). -/
def underflowing (s : State) (l : Lane) (lane : PlanLane) : Verdict :=
  if s.params.underflowMask then ⟨lane, s.links.get l, [.attentionSetRequest (.lane .noFallback l)]⟩
  else ⟨{ lane with state := .halted }, s.links.get l, [.attentionSetRequest (.lane .laneHalted l)]⟩

theorem underflow_becoming (settled : s.resets = []) (lane : PlanLane) :
    (s.setPlan l lane).underflow l = s.becoming l (s.underflowing l lane) := by
  rw [underflow, underflowing]
  by_cases masked : s.params.underflowMask = true
  · rw [if_pos (by exact masked), if_pos masked, request_of_none _ (by exact settled)]
    simp [becoming, setPlan]
  · rw [if_neg (by exact masked), if_neg masked, request_of_none _ (by exact settled)]
    simp [becoming, setPlan]

theorem beginSwitch_becoming (settled : s.resets = []) (lane : PlanLane) (w : SwitchRecord) :
    (s.setPlan l lane).beginSwitch l w = s.becoming l (s.switching l lane w) := by
  rw [switching]
  by_cases idle : (s.grants.get l).outstanding = []
  · rw [if_pos idle, beginSwitch_of_idle (by exact idle)]
    by_cases room : (s.links.get l).outbound.length < 16
    · rw [sendOrder_of_room (by exact settled) (by exact room), if_pos room, if_neg (by omega)]
      simp [becoming, setPlan, orderDeadline]
    · rw [sendOrder, sendOut_of_full (by exact settled) _ _ (by simpa [setPlan] using room), if_neg room, faultLink_of_none (by exact settled)]
      simp only [Nat.le_of_not_lt room, true_and]
      cases latch : (s.links.get l).latch <;> simp [becoming, setPlan, orderDeadline, latch]
  · rw [if_neg idle, beginSwitch_of_outstanding (by exact idle), becoming_keeping]
    simp [setPlan]

/-- The verdict on a lane whose unacceptable top is given, tagged STALE (R103, R104). -/
def searched (s : State) (l : Lane) (top : PlanEntry) : Verdict :=
  let found := searchDown (s.planFraction l) (s.plans.get l).stack.dropLast.reverse
  let lane := { s.plans.get l with stack := found.1.reverse ++ [top] }
  match found.2 with
  | none => s.underflowing l lane
  | some position =>
    match lane.stack[position - 1]? with
    | some e => s.switching l lane ⟨.fallback, position, e.plan⟩
    | none => s.keeping l lane

/-- The verdict of a judgement (R102). -/
def verdict (s : State) (l : Lane) : Verdict :=
  let lane := s.plans.get l
  match lane.top with
  | none => s.keeping l lane
  | some top =>
    match s.planFraction l top.plan with
    | none => s.keeping l lane
    | some q =>
      if top.tolerance ≤ q then s.keeping l { lane with stack := lane.stack.dropLast ++ [{ top with tag := .valid }] }
      else
        match s.mode with
        | .bypass => s.keeping l { lane with stack := lane.stack.dropLast ++ [{ top with tag := .stale }] }
        | .run => s.searched l { top with tag := .stale }

theorem searchFallback_becoming (settled : s.resets = []) (top : PlanEntry) :
    s.searchFallback l top = s.becoming l (s.searched l top) := by
  rw [searchFallback, searched]
  dsimp only
  cases (searchDown (s.planFraction l) (s.plans.get l).stack.dropLast.reverse).2 with
  | none => exact underflow_becoming settled _
  | some position =>
    dsimp only
    cases ((searchDown (s.planFraction l) (s.plans.get l).stack.dropLast.reverse).1.reverse ++ [top])[position - 1]? with
    | none => exact (becoming_keeping s l _).symm
    | some e => exact beginSwitch_becoming settled _ _

theorem judge_becoming (settled : s.resets = []) (l : Lane) : s.judge l = s.becoming l (s.verdict l) := by
  have unchanged : s.becoming l (s.keeping l (s.plans.get l)) = s := by
    rw [becoming_keeping, setPlan, PerLane.set_get]
  rw [judge, verdict]
  cases (s.plans.get l).top with
  | none => exact unchanged.symm
  | some top =>
    dsimp only
    cases s.planFraction l top.plan with
    | none => exact unchanged.symm
    | some q =>
      dsimp only
      split
      · exact (becoming_keeping s l _).symm
      · cases s.mode with
        | bypass => exact (becoming_keeping s l _).symm
        | run => exact searchFallback_becoming settled _

/-! ## The lanes of a notice (R101) -/

/-- What becomes of a lane that a notice judges only when it is eligible. -/
def judged (s : State) (l : Lane) : Verdict :=
  if (s.plans.get l).state = .settled ∧ (s.plans.get l).settle = none then s.verdict l else s.keeping l (s.plans.get l)

theorem judgeEligible_becoming (settled : s.resets = []) (l : Lane) : s.judgeEligible l = s.becoming l (s.judged l) := by
  rw [judgeEligible, judged]
  split
  · exact judge_becoming settled l
  · rw [becoming_keeping, setPlan, PerLane.set_get]

/-- A lane's verdict reads no other lane. -/
theorem judged_becoming {m : Lane} (other : l ≠ m) (v : Verdict) : (s.becoming m v).judged l = s.judged l := by
  have plans : (s.becoming m v).plans.get l = s.plans.get l := PerLane.get_set_ne _ _ other
  have links : (s.becoming m v).links.get l = s.links.get l := PerLane.get_set_ne _ _ other
  simp only [judged, verdict, searched, switching, underflowing, keeping, plans, links]
  rfl

/-- The judgements of a notice, lane by lane. -/
theorem judgeAll_becoming (settled : s.resets = []) : s.judgeAll =
    ((s.becoming .l0 (s.judged .l0)).becoming .l1 (s.judged .l1)).becoming .l2 (s.judged .l2) := by
  rw [judgeAll, judgeEligible_becoming settled, judgeEligible_becoming (by exact settled) .l1, judgeEligible_becoming (by exact settled) .l2,
    judged_becoming (by decide), judged_becoming (by decide), judged_becoming (by decide)]

/-- A lane that is not eligible is left as it is. -/
theorem judgeEligible_of_not (not : ¬((s.plans.get l).state = .settled ∧ (s.plans.get l).settle = none)) : s.judgeEligible l = s :=
  if_neg not

theorem judgeAll_of_none (none : ∀ l, ¬((s.plans.get l).state = .settled ∧ (s.plans.get l).settle = none)) : s.judgeAll = s := by
  rw [judgeAll, judgeEligible_of_not (none .l0), judgeEligible_of_not (none .l1), judgeEligible_of_not (none .l2)]

/-- With one eligible lane, whose judgement changes its own plan lane alone, a notice judges that lane. -/
theorem judgeAll_of_one {lane : PlanLane} (one : ∀ m, ((s.plans.get m).state = .settled ∧ (s.plans.get m).settle = none) ↔ m = l)
    (judge : s.judge l = s.setPlan l lane) : s.judgeAll = s.setPlan l lane := by
  have here : s.judgeEligible l = s.setPlan l lane := (if_pos ((one l).mpr rfl)).trans judge
  have before : ∀ m, m ≠ l → s.judgeEligible m = s := fun m other => judgeEligible_of_not (mt (one m).mp other)
  have after : ∀ m, m ≠ l → (s.setPlan l lane).judgeEligible m = s.setPlan l lane := fun m other => judgeEligible_of_not <| by
    rw [show (s.setPlan l lane).plans.get m = s.plans.get m from PerLane.get_set_ne _ _ other]
    exact mt (one m).mp other
  rw [judgeAll]
  cases l with
  | l0 => rw [here, after .l1 nofun, after .l2 nofun]
  | l1 => rw [before .l0 nofun, here, after .l2 nofun]
  | l2 => rw [before .l0 nofun, before .l1 nofun, here]

/-! ## The cases of a verdict (R102 to R104) -/

section

variable {below : List PlanEntry} {top : PlanEntry} (stack : (s.plans.get l).stack = below ++ [top])

include stack

theorem top_of_stack : (s.plans.get l).top = some top := by
  rw [PlanLane.top, stack, List.getLast?_concat]

theorem judge_of_unknown (unknown : s.planFraction l top.plan = none) : s.judge l = s.setPlan l (s.plans.get l) := by
  rw [judge, top_of_stack stack]
  dsimp only
  rw [unknown]
  exact congrArg (fun plans => { s with plans := plans }) (PerLane.set_get _ _).symm

theorem judge_of_clear {q : Nat} (known : s.planFraction l top.plan = some q) (clear : top.tolerance ≤ q) :
    s.judge l = s.setPlan l { s.plans.get l with stack := below ++ [{ top with tag := .valid }] } := by
  rw [judge, top_of_stack stack]
  dsimp only
  rw [known]
  dsimp only
  rw [if_pos clear, stack, List.dropLast_concat]

theorem judge_of_bypass {q : Nat} (known : s.planFraction l top.plan = some q) (low : q < top.tolerance) (mode : s.mode = .bypass) :
    s.judge l = s.setPlan l { s.plans.get l with stack := below ++ [{ top with tag := .stale }] } := by
  rw [judge, top_of_stack stack]
  dsimp only
  rw [known]
  dsimp only
  rw [if_neg (Nat.not_le_of_lt low), mode, stack, List.dropLast_concat]

theorem verdict_of_unknown (unknown : s.planFraction l top.plan = none) : s.verdict l = s.keeping l (s.plans.get l) := by
  rw [verdict, top_of_stack stack]
  dsimp only
  rw [unknown]

theorem verdict_of_clear {q : Nat} (known : s.planFraction l top.plan = some q) (clear : top.tolerance ≤ q) :
    s.verdict l = s.keeping l { s.plans.get l with stack := below ++ [{ top with tag := .valid }] } := by
  rw [verdict, top_of_stack stack]
  dsimp only
  rw [known]
  dsimp only
  rw [if_pos clear, stack, List.dropLast_concat]

theorem verdict_of_bypass {q : Nat} (known : s.planFraction l top.plan = some q) (low : q < top.tolerance) (mode : s.mode = .bypass) :
    s.verdict l = s.keeping l { s.plans.get l with stack := below ++ [{ top with tag := .stale }] } := by
  rw [verdict, top_of_stack stack]
  dsimp only
  rw [known]
  dsimp only
  rw [if_neg (Nat.not_le_of_lt low), mode, stack, List.dropLast_concat]

theorem verdict_of_run {q : Nat} (known : s.planFraction l top.plan = some q) (low : q < top.tolerance) (mode : s.mode = .run) :
    s.verdict l = s.searched l { top with tag := .stale } := by
  rw [verdict, top_of_stack stack]
  dsimp only
  rw [known]
  dsimp only
  rw [if_neg (Nat.not_le_of_lt low), mode]

/-- With no acceptable entry beneath the top, the lane underflows. -/
theorem searched_of_none (low : ∀ e ∈ below, ∀ x, s.planFraction l e.plan = some x → x < e.tolerance) (t : PlanEntry) :
    s.searched l t = s.underflowing l { s.plans.get l with stack := below.map (·.passedBy (s.planFraction l)) ++ [t] } := by
  have found := searchDown_of_passed (passed := below.reverse) fun e mem => low e (List.mem_reverse.mp mem)
  rw [searched, stack, List.dropLast_concat, found]
  dsimp only
  rw [← List.map_reverse, List.reverse_reverse]

/-- The nearest acceptable entry beneath the top is taken. -/
theorem searched_of_found {deep above : List PlanEntry} {c : PlanEntry} {y : Nat} (split : below = deep ++ c :: above)
    (low : ∀ e ∈ above, ∀ x, s.planFraction l e.plan = some x → x < e.tolerance) (known : s.planFraction l c.plan = some y)
    (high : c.tolerance ≤ y) (t : PlanEntry) :
    s.searched l t = s.switching l
      { s.plans.get l with stack := deep ++ c :: above.map (·.passedBy (s.planFraction l)) ++ [t] } ⟨.fallback, deep.length + 1, c.plan⟩ := by
  have found := searchDown_of_found (passed := above.reverse) (fun e mem => low e (List.mem_reverse.mp mem)) known high deep.reverse
  have listed : below.reverse = above.reverse ++ c :: deep.reverse := by simp [split]
  have tagged : (above.reverse.map (·.passedBy (s.planFraction l)) ++ c :: deep.reverse).reverse =
      deep ++ c :: above.map (·.passedBy (s.planFraction l)) := by simp
  have place : (deep ++ c :: above.map (·.passedBy (s.planFraction l)) ++ [t])[deep.length + 1 - 1]? = some c := by simp
  rw [searched, stack, List.dropLast_concat, listed, found]
  dsimp only
  rw [tagged, List.length_reverse, place]

end

end State

end Sys2Proof.Machine

/-! The statements about judgement: what a notice makes of each lane, and what the settle timer's expiry does (R101 to R104,
R111). -/

namespace Sys2Proof.Machine

open Sys2Proof

/-! ## Notices (R101) -/

/-- Each of the four notices is used up and judges every lane. -/
theorem exec_notice {s : State} (running : s.resetN = true) {n : Handed}
    (which : n = .cadenceStateNotice ∨ (∃ k, n = .changeNotice k) ∨ (∃ l, n = .guardChangeNotice l) ∨ n = .modeNotice) :
    exec n.toInstr s = .next (s.taking n).judgeAll := by
  obtain rfl | ⟨k, rfl⟩ | ⟨l, rfl⟩ | rfl := which <;>
    exact event_of_running s (fun s => (s.taking _).judgeAll) running

/-- A lane's verdict does not read the handed work. -/
theorem State.judged_taking (s : State) (n : Handed) (l : Lane) : (s.taking n).judged l = s.judged l := rfl

namespace State

variable {s : State} {l : Lane}

/-- The state that the verdicts on the three lanes make. -/
def allJudged (s : State) : State :=
  ((s.becoming .l0 (s.judged .l0)).becoming .l1 (s.judged .l1)).becoming .l2 (s.judged .l2)

theorem allJudged_lane (s : State) (l : Lane) {v : Verdict} (judged : s.judged l = v) :
    s.allJudged.plans.get l = v.lane ∧ s.allJudged.links.get l = v.link ∧ (s.judged l).work = v.work := by
  subst judged
  cases l <;> exact ⟨rfl, rfl, rfl⟩

theorem judged_of_eligible (state : (s.plans.get l).state = .settled) (settle : (s.plans.get l).settle = none) :
    s.judged l = s.verdict l := if_pos ⟨state, settle⟩

/-- A switch with grants outstanding drains the lane. -/
theorem switching_of_outstanding (some : (s.grants.get l).outstanding ≠ []) (lane : PlanLane) (w : SwitchRecord) :
    s.switching l lane w = s.keeping l { lane with state := .draining, switch := .some w, settle := none } := if_neg some

end State

/-- Settles O20: the verdict on each lane by the cases of R102 to R104. -/
theorem noticeTagsTheTop : Obligations.NoticeTagsTheTop := by
  unfold Obligations.NoticeTagsTheTop
  intro s n running which
  have run := exec_notice running which
  refine ⟨fun none => ?_, fun l below top one stack => ⟨fun unknown => ?_, fun q known => ⟨fun clear => ?_, fun low mode => ?_⟩⟩, fun settled => ?_⟩
  · rw [run, State.judgeAll_of_none (by exact none)]
    rfl
  · rw [run, State.judgeAll_of_one (by exact one) (State.judge_of_unknown (by exact stack) (by exact unknown)), State.setPlan, PerLane.set_get]
    rfl
  · rw [run, State.judgeAll_of_one (by exact one) (State.judge_of_clear (by exact stack) (by exact known) clear)]
    rfl
  · rw [run, State.judgeAll_of_one (by exact one) (State.judge_of_bypass (by exact stack) (by exact known) low (by exact mode))]
    rfl
  · refine ⟨(s.taking n).allJudged, fun l => ((s.taking n).judged l).work, ?_, rfl, fun l => ?_⟩
    · rw [run, State.judgeAll_becoming (by exact settled)]
      rfl
    · refine ⟨fun not => (s.taking n).allJudged_lane l (if_neg not), fun below top state settle stack => ?_⟩
      have judged : (s.taking n).judged l = s.verdict l := (s.judged_taking n l).trans (State.judged_of_eligible state settle)
      have became := fun {v} (h : s.verdict l = v) => (s.taking n).allJudged_lane l (judged.trans h)
      refine ⟨fun unknown => became (State.verdict_of_unknown stack unknown), fun x known =>
        ⟨fun clear => became (State.verdict_of_clear stack known clear),
          fun low mode => became (State.verdict_of_bypass stack known low mode), fun low mode none => ?_, ?_⟩⟩
      · have search := (State.verdict_of_run stack known low mode).trans (State.searched_of_none stack none _)
        exact ⟨fun masked => became (search.trans (if_pos masked)),
          fun unmasked => became (search.trans (if_neg (by simp [unmasked])))⟩
      · intro deep above c y low mode split high clear passed
        have search := (State.verdict_of_run stack known low mode).trans (State.searched_of_found stack split passed high clear _)
        exact ⟨fun some => became (search.trans (State.switching_of_outstanding some _ _)),
          fun idle => became (search.trans (if_pos idle))⟩

/-! ## The settle timer (R111) -/

/-- The expiry of a lane's settle timer stops it and judges the lane. -/
theorem exec_settleTimerExpiry {s : State} (running : s.resetN = true) (l : Lane) : exec (.settleTimerExpiry l) s =
    .next (if reached s.airTime (s.plans.get l).settle then
      (s.setPlan l { s.plans.get l with settle := none }).judgeEligible l else s) :=
  event_of_running s (fun s => s.expireSettle l) running

/-- A lane whose settle timer has stopped. -/
def State.stopped (s : State) (l : Lane) : State := s.setPlan l { s.plans.get l with settle := none }

theorem State.stopped_plan (s : State) (l : Lane) : (s.stopped l).plans.get l = { s.plans.get l with settle := none } := by
  simp [State.stopped, State.setPlan]

/-- A timer that is due stops, and its lane is judged. -/
theorem exec_settleTimerExpiry_of_due {s : State} (running : s.resetN = true) {l : Lane} {d : AirTime}
    (state : (s.plans.get l).state = .settled) (settle : (s.plans.get l).settle = some d) (due : atOrAfter s.airTime d = true) :
    exec (.settleTimerExpiry l) s = .next ((s.stopped l).judge l) := by
  rw [exec_settleTimerExpiry running, settle, if_pos (by exact due)]
  exact congrArg _ (if_pos (by simp [State.setPlan, state]))

/-- Settles O21: the fallback search, and the expiry of the settle timer by the cases of R102 to R104. -/
theorem judgementFallsBack : Obligations.JudgementFallsBack := by
  unfold Obligations.JudgementFallsBack
  refine ⟨fun q passed c beneath low => ⟨searchDown_of_passed low, fun x known clear => searchDown_of_found low known clear beneath⟩,
    fun s l d below top running state settle stack => ⟨fun early => ?_, fun due => ?_⟩,
    fun s l d below top q running settled state settle due stack mode known low => ?_⟩
  · rw [exec_settleTimerExpiry running, settle]
    exact congrArg _ (if_neg (by simp [reached, early]))
  · have stacked : ((s.stopped l).plans.get l).stack = below ++ [top] := by rw [s.stopped_plan, stack]
    rw [exec_settleTimerExpiry_of_due running state settle due]
    refine ⟨fun unknown => ?_, fun q known => ⟨fun clear => ?_, fun low mode => ?_⟩⟩
    · rw [State.judge_of_unknown stacked (by exact unknown)]
      simp [State.stopped, State.setPlan, stack]
    · rw [State.judge_of_clear stacked (by exact known) clear]
      simp [State.stopped, State.setPlan]
    · rw [State.judge_of_bypass stacked (by exact known) low (by exact mode)]
      simp [State.stopped, State.setPlan]
  · have stacked : ((s.stopped l).plans.get l).stack = below ++ [top] := by rw [s.stopped_plan, stack]
    rw [exec_settleTimerExpiry_of_due running state settle due, State.judge_becoming (by exact settled),
      State.verdict_of_run stacked (by exact known) low (by exact mode)]
    refine ⟨fun deep c x split taken clear => ?_, fun empty => ?_⟩
    · rw [State.searched_of_found (above := []) stacked split nofun (by exact taken) clear, split]
      refine ⟨fun some => ?_, fun idle room => ?_⟩
      · rw [State.switching_of_outstanding (by exact some), State.becoming_keeping]
        simp [State.stopped, State.setPlan]
      · rw [State.switching, if_pos (by exact idle), if_pos (by exact room), if_neg (fun full => absurd full.1 (Nat.not_le_of_lt room))]
        simp [State.stopped, State.setPlan, State.becoming, State.orderDeadline]
    · subst empty
      rw [State.searched_of_none stacked nofun]
      refine ⟨fun masked => ?_, fun unmasked => ?_⟩
      · rw [State.underflowing, if_pos (by exact masked)]
        simp [State.stopped, State.setPlan, State.becoming]
      · rw [State.underflowing, if_neg (fun masked => by simp_all [State.stopped, State.setPlan])]
        simp [State.stopped, State.setPlan, State.becoming]

end Sys2Proof.Machine

/-! QUERY written out on a settled part (R122 to R138): the arbiter's turn, the refusals, and the GO of a lane whose top is
open to the query. -/

namespace Sys2Proof.Machine

open Sys2Proof

/-! ## The body of a QUERY (R123) -/

theorem parseQuery_bytes (a : Address) (d : Half) : parseQuery (addressBytes a ++ halfBytes d) =
    if 16 ≤ d.toNat ∧ d.toNat ≤ 8000 then some ⟨a, d.toNat⟩ else none := by
  show (if 16 ≤ (half _ _).toNat ∧ (half _ _).toNat ≤ 8000 then some (Query.mk (address _ _ _ _ _ _) (half _ _).toNat) else none) = _
  rw [half_extract, address_extract]

namespace State

variable {s : State} {l : Lane}

/-! ## The arbiter's turn (R122) -/

/-- The part once the arbiter has taken the QUERY of a lane. -/
def queried (s : State) (l : Lane) : State := { s.emptyHolder l with arbiter := l }

theorem takeQuery_of_held (settled : s.resets = []) {m : Held} (holder : (s.links.get l).holder = some m) : s.takeQuery l =
    match parseQuery m.body with
    | some q => (s.queried l).evaluate l q
    | none => (s.queried l).sendOut .gre l (.nak .malformed InKind.query.byte) := by
  rw [takeQuery, heldBody_of_none settled, holder]
  rfl

/-- An answer on the lane of the QUERY, with room for it. -/
theorem queried_sendOut (settled : s.resets = []) (room : (s.links.get l).outbound.length < 16) (m : OutMsg) :
    (s.queried l).sendOut .gre l m = { s with
      arbiter := l
      links := s.links.set l { s.links.get l with holder := none, outbound := (s.links.get l).outbound ++ [m] } } := by
  rw [sendOut_of_room _ (by exact settled) _ _ _ (by simpa [queried, emptyHolder] using room)]
  simp [queried, emptyHolder, setLink]

/-- A GO on the lane of the QUERY, with room for it. -/
theorem queried_issue (settled : s.resets = []) (room : (s.links.get l).outbound.length < 16) (x : Grant) :
    (s.queried l).issue l x = { s with
      arbiter := l
      grants := s.grants.set l ((s.grants.get l).granted x)
      links := s.links.set l { s.links.get l with
        holder := none, outbound := (s.links.get l).outbound ++ [.go x.id x.start x.cap x.span x.flags] } } := by
  rw [issue, answerQuery, sendOut_of_room _ (by exact settled) _ _ _ (by simpa [queried, emptyHolder, setGrant] using room)]
  simp [queried, emptyHolder, setLink, setGrant, GrantLane.granted]

end State

/-- A QUERY that the arbiter takes. -/
theorem exec_query {s : State} {l : Lane} (running : s.resetN = true) (turn : s.queryLane = some l) :
    exec .query s = .next (s.takeQuery l) := by
  show execQuery s = _
  rw [execQuery, event_of_running s _ running, turn]

/-! ## Refusals (R123 to R126) -/

theorem PlanState.evaluate_refusal (s : State) (l : Lane) (q : Query) {answer : OutMsg}
    (why : ((s.plans.get l).state = .disabled ∧ answer = .refused .disabled) ∨
      (((s.plans.get l).state = .draining ∨ (s.plans.get l).state = .switching ∨ (s.plans.get l).state = .unsynced) ∧
        answer = .refused .switching) ∨
      ((s.plans.get l).state = .halted ∧ answer = .refused .halted) ∨
      ((s.plans.get l).state = .settled ∧ 2 ≤ (s.grants.get l).outstanding.length ∧ answer = .refused .tooMany)) :
    s.evaluate l q = s.sendOut .gre l answer := by
  rw [State.evaluate]
  obtain ⟨state, rfl⟩ | ⟨state | state | state, rfl⟩ | ⟨state, rfl⟩ | ⟨state, full, rfl⟩ := why
  · rw [state]; rfl
  · rw [state]; rfl
  · rw [state]; rfl
  · rw [state]; rfl
  · rw [state]; rfl
  · rw [state]; exact if_pos full

/-- Settles O30. -/
theorem queryIsRefused : Obligations.QueryIsRefused := by
  unfold Obligations.QueryIsRefused
  intro s l m a d answer running settled turn holder body room why
  rw [exec_query running turn, State.takeQuery_of_held settled holder, body, parseQuery_bytes]
  obtain ⟨outside, rfl⟩ | ⟨inside, why⟩ := why
  · rw [if_neg (by omega)]
    exact congrArg _ (State.queried_sendOut settled room _)
  · rw [if_pos inside]
    exact congrArg _ ((PlanState.evaluate_refusal _ _ _ (by exact why)).trans (State.queried_sendOut settled room _))

/-! ## The grant of a query that passes stages 1 and 2 -/

/-- A SETTLED lane with a grant slot free evaluates its top plan. -/
theorem State.evaluate_of_settled {s : State} {l : Lane} {below : List PlanEntry} {top : PlanEntry}
    (state : (s.plans.get l).state = .settled) (stack : (s.plans.get l).stack = below ++ [top])
    (free : (s.grants.get l).outstanding.length < 2) (q : Query) : s.evaluate l q = s.grantQuery l top.plan q := by
  rw [State.evaluate, state]
  dsimp only
  rw [if_neg (not_le_of_gt (α := Nat) (b := Config.grantSlots) free), State.top_of_stack stack]

/-- A QUERY of a well-formed body on a SETTLED lane with a slot free reaches stages 3 to 7. -/
theorem exec_query_of_settled {s : State} {l : Lane} {m : Held} {a : Address} {d : Half} {below : List PlanEntry} {top : PlanEntry}
    (running : s.resetN = true) (settled : s.resets = []) (turn : s.queryLane = some l) (holder : (s.links.get l).holder = some m)
    (body : m.body = addressBytes a ++ halfBytes d) (inside : 16 ≤ d.toNat ∧ d.toNat ≤ 8000)
    (state : (s.plans.get l).state = .settled) (stack : (s.plans.get l).stack = below ++ [top])
    (free : (s.grants.get l).outstanding.length < 2) :
    exec .query s = .next ((s.queried l).grantQuery l top.plan ⟨a, d.toNat⟩) := by
  rw [exec_query running turn, State.takeQuery_of_held settled holder, body, parseQuery_bytes, if_pos inside]
  exact congrArg _ (State.evaluate_of_settled (by exact state) (by exact stack) (by exact free) _)

/-- The guard of the evaluation, and what it searches for (R128, R131). -/
theorem State.grantQuery_eq (s : State) (l : Lane) (top : PlanSpan) (q : Query) : s.grantQuery l top q =
    match s.offer (s.earliestStart l) top (s.terms q.addr).width (s.guardFor l (s.terms q.addr).strained) q.airtime
      (min q.airtime (s.terms q.addr).floor) with
    | some o => s.issue l (s.grantOf l (s.terms q.addr) (s.guardFor l (s.terms q.addr).strained) o)
    | none => s.answerQuery l (.blocked (s.goFlags (s.terms q.addr) false)) := rfl

/-- While the tracker is not predicting, or in BYPASS, the offer is open (R130). -/
theorem State.offer_of_open {s : State} (open_ : s.tracker.state = .free ∨ s.tracker.state = .acquiring ∨ s.mode = .bypass)
    (e : AirTime) (top : PlanSpan) (w : Width) (g d dmin : Nat) : s.offer e top w g d dmin = some (openOffer e top w d) := by
  have still : s.tracker.state = .free ∨ s.tracker.state = .acquiring → s.tracker.prediction = none := by
    intro state
    have not : ¬s.tracker.predicting = true := by
      rcases state with state | state <;> simp [Tracker.predicting, state]
    exact if_neg not
  unfold State.offer
  by_cases bypass : s.mode = .bypass
  · rw [bypass]
    cases s.tracker.prediction <;> rfl
  · rw [still (open_.elim .inl fun other => .inr (other.resolve_right bypass))]

theorem fullWidth_iff (top : PlanSpan) (w : Width) : fullWidth top w = true ↔ top.width = .w40 ∧ w = .w40 := by
  simp [fullWidth]

theorem Tracker.predicting_eq (t : Tracker) : (!t.predicting) = decide (t.state = .free ∨ t.state = .acquiring) := by
  unfold Tracker.predicting
  cases t.state <;> rfl

theorem State.goFlags_eq (s : State) (t : Terms) (narrowed : Bool) : s.goFlags t narrowed =
    { stranger := t.stranger, strained := t.strained, narrowed := narrowed
      holdover := decide (s.tracker.state = .holdover)
      unpredicted := decide (s.tracker.state = .free ∨ s.tracker.state = .acquiring)
      bypass := decide (s.mode = .bypass) } := by
  rw [State.goFlags, Tracker.predicting_eq]
  rfl

/-- Settles O31. -/
theorem openQueryIsGrantedAtE : Obligations.OpenQueryIsGrantedAtE := by
  unfold Obligations.OpenQueryIsGrantedAtE
  intro s l m a d below top running settled turn holder body low high room state stack free open_
  have run := exec_query_of_settled running settled turn holder body ⟨low, high⟩ state stack free
  rw [State.grantQuery_eq, State.offer_of_open (by exact open_)] at run
  refine ⟨_, run.trans (congrArg _ (State.queried_issue settled room _)), rfl, rfl, rfl, rfl, rfl, rfl, ?_, ?_⟩
  · exact if_congr (fullWidth_iff _ _) rfl rfl
  · exact s.goFlags_eq _ _

/-! ## The arbiter's order (R122) -/

/-- How far a lane stands behind the arbiter's position. -/
def Lane.turn (arbiter l : Lane) : Nat := (l.toNat + 2 - arbiter.toNat) % 3

namespace State

variable (s : State)

theorem mem_arbiterOrder (l : Lane) : l ∈ s.arbiterOrder := by
  unfold arbiterOrder
  cases s.arbiter <;> cases l <;> decide

theorem arbiterOrder_pairwise : s.arbiterOrder.Pairwise fun l m => Lane.turn s.arbiter l ≤ Lane.turn s.arbiter m := by
  unfold arbiterOrder
  cases s.arbiter <;> decide

/-- Sending leaves the lanes' holders as they are. -/
theorem sendOut_holder (src : Block) (l m : Lane) (x : OutMsg) :
    ((s.sendOut src l x).links.get m).holder = (s.links.get m).holder := by
  rcases sendOut_cases s src l x with ⟨-, e⟩ | ⟨-, -, e⟩ | ⟨-, -, e⟩
  · rw [e]
  · rw [e, setLink_links, PerLane.get_set]
    split <;> simp_all
  · rcases faultLink_cases s l with ⟨-, e'⟩ | ⟨-, e'⟩
    · rw [e, e']
    · rw [e, e', request_eq, hand_eq]
      show ((s.links.set l _).get m).holder = _
      rw [PerLane.get_set]
      split <;> simp_all

/-- An evaluation leaves the lanes' holders as they are. -/
theorem evaluate_holder (l m : Lane) (q : Query) : ((s.evaluate l q).links.get m).holder = (s.links.get m).holder := by
  unfold evaluate
  split
  case h_6 =>
    split
    case isTrue => exact s.sendOut_holder _ l m _
    case isFalse =>
      split
      case h_1 =>
        rw [grantQuery_eq]
        split
        case h_1 => exact sendOut_holder _ _ l m _
        case h_2 => exact s.sendOut_holder _ l m _
      case h_2 => rfl
  all_goals exact s.sendOut_holder _ l m _

end State

/-- Settles O35: the lanes stand in the arbiter's order by their turns, and the search takes the first that holds a QUERY. -/
theorem arbiterRotates : Obligations.ArbiterRotates := by
  unfold Obligations.ArbiterRotates
  refine fun s => ⟨?_, fun l turn => ?_⟩
  · rw [State.queryLane, List.find?_eq_none]
    exact ⟨fun none l => by simpa using none l (s.mem_arbiterOrder l), fun none l _ => by simp [none l]⟩
  · obtain ⟨holds, earlier, later, order, passed⟩ := List.find?_eq_some_iff_append.mp turn
    refine ⟨⟨holds, fun m other => ?_⟩, fun running settled => ?_⟩
    · have mem := s.mem_arbiterOrder m
      have sorted := s.arbiterOrder_pairwise
      rw [order] at mem sorted
      rcases List.mem_append.mp mem with before | after
      · exact absurd other (by simpa using passed m before)
      · rcases List.mem_cons.mp after with rfl | after
        · exact Nat.le_refl _
        · exact (List.pairwise_cons.mp (List.pairwise_append.mp sorted).2.1).1 m after
    · obtain ⟨m, holder⟩ : ∃ m, (s.links.get l).holder = some m := by
        rw [State.holds] at holds
        cases holder : (s.links.get l).holder with
        | none => simp [holder] at holds
        | some m => exact ⟨m, rfl⟩
      have empty : ((s.queried l).links.get l).holder = none := by simp [State.queried, State.emptyHolder]
      refine ⟨_, exec_query running turn, ?_, ?_⟩ <;> rw [State.takeQuery_of_held settled holder] <;> split
      · exact State.evaluate_changesOnly _ l _ .arbiter (by decide)
      · exact State.sendOut_changesOnly _ _ l _ .arbiter (by decide)
      · exact (State.evaluate_holder _ l l _).trans empty
      · exact (State.sendOut_holder _ _ l l _).trans empty

end Sys2Proof.Machine

/-! The predicted search (R131 to R134): its first clear start and its cap, said of copies of the blocking intervals on the
line; and the grant that a QUERY is given by it. -/

namespace Sys2Proof.Machine

open Sys2Proof

/-! ## Points of the circle on the line (R9) -/

/-- A reduced integer differs from it by whole periods. -/
theorem exists_onCircle {p : Nat} (pos : 0 < p) (a : Int) : ∃ j : Int, a = onCircle p a + j * p := by
  refine ⟨a / p, ?_⟩
  have nonneg := Int.emod_nonneg a (show (p : Int) ≠ 0 by omega)
  have split := Int.emod_add_mul_ediv a p
  rw [onCircle, Int.toNat_of_nonneg nonneg, Int.mul_comm (a / p)]
  exact split.symm

/-- Integers that differ by whole periods are reduced alike. -/
theorem onCircle_add_mul (p : Nat) (a j : Int) : onCircle p (a + j * p) = onCircle p a := by
  rw [onCircle, onCircle, Int.add_mul_emod_self_right]

/-- A natural number is at least what it is reduced to. -/
theorem onCircle_le (p n : Nat) : onCircle p n ≤ n := by
  rw [onCircle, ← Int.natCast_emod, Int.toNat_natCast]
  exact Nat.mod_le n p

/-! ## The first clear start (R132) -/

/-- The window meets no copy of a blocking interval. -/
theorem isClear_iff {p : Nat} (pos : 0 < p) (arcs : List Arc) (x : Int) (d : Nat) : isClear p arcs x d = true ↔
    ∀ a ∈ arcs, 0 < a.length → 0 < d → ∀ j : Int, j * p + a.start < x + d → j * p + a.start + a.length ≤ x := by
  simp only [isClear, List.all_eq_true, Bool.not_eq_true', ← Bool.not_eq_true, Arc.meets_iff pos]
  refine forall₂_congr fun a _ => ⟨fun apart long wide j before => ?_, fun clear ⟨long, wide, j, before, after⟩ => ?_⟩
  · by_contra after
    exact apart ⟨long, wide, j, before, by omega⟩
  · have := clear long wide j before
    omega

theorem isClear_eq_false_iff {p : Nat} (pos : 0 < p) (arcs : List Arc) (x : Int) (d : Nat) : isClear p arcs x d = false ↔
    ∃ a ∈ arcs, 0 < a.length ∧ 0 < d ∧ ∃ j : Int, j * p + a.start < x + d ∧ x < j * p + a.start + a.length := by
  rw [← Bool.not_eq_true, isClear_iff pos]
  push Not
  rfl

/-- The starts that the search tries. -/
def searchStarts (p : Nat) (arcs : List Arc) (base : Int) : List Nat :=
  0 :: arcs.map fun a => onCircle p (a.start + a.length - base)

/-- The first clear start after one that is not clear is the end of a blocking interval. -/
theorem mem_searchStarts_of_first {p : Nat} (pos : 0 < p) {arcs : List Arc} {base : Int} {d t : Nat} (small : t < p)
    (clear : isClear p arcs (base + t) d = true) (first : ∀ u, u < t → isClear p arcs (base + u) d = false) :
    t ∈ searchStarts p arcs base := by
  rcases Nat.eq_zero_or_pos t with rfl | later
  · exact List.mem_cons_self
  · obtain ⟨a, mem, long, wide, j, before, after⟩ := (isClear_eq_false_iff pos _ _ _).mp (first (t - 1) (by omega))
    have past := (isClear_iff pos _ _ _).mp clear a mem long wide j (by omega)
    refine List.mem_cons_of_mem _ (List.mem_map.mpr ⟨a, mem, ?_⟩)
    have ends : a.start + a.length - base = (t : Int) + -j * p := by
      rw [Int.neg_mul]
      omega
    rw [ends, onCircle_add_mul, onCircle_of_lt small]

theorem least_le {xs : List Nat} {x y : Nat} (h : least xs = some x) (mem : y ∈ xs) : x ≤ y := by
  induction xs generalizing x with
  | nil => cases mem
  | cons z zs ih =>
    unfold least at h
    cases found : least zs with
    | none =>
      rw [found] at h
      cases h
      rcases List.mem_cons.mp mem with rfl | mem
      · exact Nat.le_refl _
      · cases zs with
        | nil => cases mem
        | cons w ws =>
          unfold least at found
          split at found <;> cases found
    | some w =>
      rw [found] at h
      cases h
      rcases List.mem_cons.mp mem with rfl | mem
      · exact Nat.min_le_left _ _
      · exact (Nat.min_le_right _ _).trans (ih found mem)

theorem least_none {xs : List Nat} (h : least xs = none) : xs = [] := by
  cases xs with
  | nil => rfl
  | cons x xs =>
    unfold least at h
    split at h <;> cases h

/-- A clear start below the period is at or after a clear start that the search tries. -/
theorem exists_searchStart {p : Nat} (pos : 0 < p) {arcs : List Arc} {base : Int} {d u : Nat} (small : u < p)
    (clear : isClear p arcs (base + u) d = true) :
    ∃ t ≤ u, t ∈ (searchStarts p arcs base).filter fun t : Nat => isClear p arcs (base + t) d := by
  have some : ∃ t, isClear p arcs (base + (t : Nat)) d = true := ⟨u, clear⟩
  have below := Nat.find_min' some clear
  refine ⟨Nat.find some, below, List.mem_filter.mpr ⟨?_, Nat.find_spec some⟩⟩
  exact mem_searchStarts_of_first pos (by omega) (Nat.find_spec some) fun v less => by simpa using Nat.find_min some less

theorem searchOffset_some {p : Nat} (pos : 0 < p) {arcs : List Arc} {base : Int} {d t : Nat} (found : searchOffset p arcs base d = some t) :
    t < p ∧ isClear p arcs (base + t) d = true ∧ ∀ u, u < t → isClear p arcs (base + u) d = false := by
  have small := searchOffset_lt pos found
  refine ⟨small, (List.mem_filter.mp (least_mem found)).2, fun u less => ?_⟩
  by_contra clear
  obtain ⟨v, le, mem⟩ := exists_searchStart pos (less.trans small) (Bool.not_eq_false _ |>.mp clear)
  have := least_le found mem
  omega

theorem searchOffset_none {p : Nat} (pos : 0 < p) {arcs : List Arc} {base : Int} {d : Nat} (none : searchOffset p arcs base d = none)
    {u : Nat} (small : u < p) : isClear p arcs (base + u) d = false := by
  by_contra clear
  obtain ⟨v, -, mem⟩ := exists_searchStart pos small (Bool.not_eq_false _ |>.mp clear)
  have empty : (searchStarts p arcs base).filter (fun t : Nat => isClear p arcs (base + t) d) = [] := least_none none
  rw [empty] at mem
  cases mem

/-! ## The cap (R134) -/

/-- The cap is the requested airtime or the distance to a blocking interval, and at most each of them. -/
theorem capAt_cases (p : Nat) (arcs : List Arc) (x : Int) (d : Nat) :
    (capAt p arcs x d = d ∨ ∃ a ∈ arcs, capAt p arcs x d = onCircle p (a.start - x)) ∧
      ∀ a ∈ arcs, capAt p arcs x d ≤ onCircle p (a.start - x) := by
  unfold capAt
  induction arcs generalizing d with
  | nil => exact ⟨.inl rfl, nofun⟩
  | cons a arcs ih =>
    obtain ⟨which, least⟩ := ih (min d (onCircle p (a.start - x)))
    refine ⟨?_, fun b mem => ?_⟩
    · rcases which with e | ⟨b, mem, e⟩
      · rw [List.foldl_cons, e]
        rcases min_choice d (onCircle p (a.start - x)) with e | e <;> rw [e]
        · exact .inl rfl
        · exact .inr ⟨a, List.mem_cons_self, rfl⟩
      · exact .inr ⟨b, List.mem_cons_of_mem _ mem, e⟩
    · rcases List.mem_cons.mp mem with rfl | mem
      · exact (capAt_le p arcs x _).trans (Nat.min_le_right _ _)
      · exact least b mem

/-- A blocking interval that begins at a distance from the start lowers the cap to it. -/
theorem capAt_le_of_begins {p : Nat} {arcs : List Arc} {x : Int} {d u : Nat} {a : Arc} (mem : a ∈ arcs) {j : Int}
    (begins : a.start + j * p = x + u) : capAt p arcs x d ≤ u := by
  have distance : a.start - x = (u : Int) + -j * p := by
    rw [Int.neg_mul]
    omega
  have le := (capAt_cases p arcs x d).2 a mem
  rw [distance, onCircle_add_mul] at le
  exact le.trans (onCircle_le p u)

theorem begins_of_onCircle {p : Nat} (pos : 0 < p) (a : Arc) (x : Int) : ∃ j : Int, a.start + j * p = x + onCircle p (a.start - x) := by
  obtain ⟨j, split⟩ := exists_onCircle pos (a.start - x)
  refine ⟨-j, ?_⟩
  rw [Int.neg_mul]
  omega

/-! ## The offer of the predicted search (R133, R135) -/

theorem Tracker.prediction_of_predicting {t : Tracker} (state : t.state = .locked ∨ t.state = .holdover) {reference : AirTime}
    (known : t.reference = some reference) : t.prediction = some ⟨reference, t.period⟩ := by
  have predicting : t.predicting = true := by
    rcases state with state | state <;> simp [Tracker.predicting, state]
  rw [Tracker.prediction, if_pos predicting, known]
  rfl

theorem State.offer_of_predicting {s : State} (state : s.tracker.state = .locked ∨ s.tracker.state = .holdover) {reference : AirTime}
    (known : s.tracker.reference = some reference) (run : s.mode = .run) (e : AirTime) (top : PlanSpan) (w : Width) (g d dmin : Nat) :
    s.offer e top w g d dmin = s.predictedOffer ⟨reference, s.tracker.period⟩ e top w g d dmin := by
  rw [State.offer, Tracker.prediction_of_predicting state known, run]

theorem State.goFlags_of_predicting {s : State} (state : s.tracker.state = .locked ∨ s.tracker.state = .holdover) (run : s.mode = .run)
    (t : Terms) (narrowed : Bool) : s.goFlags t narrowed =
      { stranger := t.stranger, strained := t.strained, narrowed := narrowed
        holdover := decide (s.tracker.state = .holdover), unpredicted := false, bypass := false } := by
  rw [State.goFlags_eq, run]
  rcases state with state | state <;> rw [state] <;> rfl

section

variable (s : State) (p : Prediction) (e : AirTime) (top : PlanSpan) (w : Width) (g d dmin : Nat)

theorem predictedOffer_blocked (none : s.searchSpan p e top.primaryHalf g dmin = none) :
    s.predictedOffer p e top w g d dmin = .none := by
  rw [State.predictedOffer, none]

theorem predictedOffer_half {y : Nat} (found : s.searchSpan p e top.primaryHalf g dmin = some y) (half : ¬(top.width = .w40 ∧ w = .w40)) :
    s.predictedOffer p e top w g d dmin = some (s.offerAt p e top.primaryHalf g d y false) := by
  rw [State.predictedOffer, found]
  exact if_neg (mt (fullWidth_iff top w).mp half)

theorem predictedOffer_full {y : Nat} (found : s.searchSpan p e top.primaryHalf g dmin = some y) (full : top.width = .w40 ∧ w = .w40)
    (same : s.searchSpan p e top g dmin = some y) :
    s.predictedOffer p e top w g d dmin = some (s.offerAt p e top g d y false) := by
  rw [State.predictedOffer, found]
  exact (if_pos ((fullWidth_iff top w).mpr full)).trans (if_pos same)

theorem predictedOffer_narrowed {y : Nat} (found : s.searchSpan p e top.primaryHalf g dmin = some y) (full : top.width = .w40 ∧ w = .w40)
    (other : s.searchSpan p e top g dmin ≠ some y) :
    s.predictedOffer p e top w g d dmin = some (s.offerAt p e top.primaryHalf g d y true) := by
  rw [State.predictedOffer, found]
  exact (if_pos ((fullWidth_iff top w).mpr full)).trans (if_neg other)

end

/-- Stages 3 to 7 read nothing that the arbiter's turn has changed. -/
theorem State.queried_grantQuery (s : State) (l : Lane) (top : PlanSpan) (q : Query) : (s.queried l).grantQuery l top q =
    match s.offer (s.earliestStart l) top (s.terms q.addr).width (s.guardFor l (s.terms q.addr).strained) q.airtime
      (min q.airtime (s.terms q.addr).floor) with
    | some o => (s.queried l).issue l (s.grantOf l (s.terms q.addr) (s.guardFor l (s.terms q.addr).strained) o)
    | none => (s.queried l).answerQuery l (.blocked (s.goFlags (s.terms q.addr) false)) := rfl

/-- Settles O34: the search and the cap by copies of the blocking intervals on the line, then the offer case by case. -/
theorem predictedQueryTakesTheFirstClearStart : Obligations.PredictedQueryTakesTheFirstClearStart := by
  unfold Obligations.PredictedQueryTakesTheFirstClearStart
  refine ⟨fun p arcs base d pos => ⟨fun t found => searchOffset_some pos found, fun none u small => searchOffset_none pos none small⟩,
    fun p arcs x d pos => ⟨capAt_le p arcs x d, fun u less ⟨a, mem, j, begins⟩ => ?_, ?_⟩, ?_⟩
  · exact absurd (capAt_le_of_begins mem begins) (Nat.not_le_of_lt less)
  · refine (capAt_cases p arcs x d).1.imp id fun ⟨a, mem, distance⟩ => ?_
    obtain ⟨j, begins⟩ := begins_of_onCircle pos a x
    exact ⟨a, mem, j, by rw [distance]; exact begins⟩
  · intro s l m a d below top reference running settled turn holder body low high room state stack free predicting known mode
    have run := exec_query_of_settled running settled turn holder body ⟨low, high⟩ state stack free
    have flags := fun n => State.goFlags_of_predicting predicting mode (s.terms a) n
    rw [State.queried_grantQuery, State.offer_of_predicting predicting known mode] at run
    intro half g goFlags arcs base search granted
    have grants : ∀ {c : PlanSpan} {n : Bool} {y : Nat},
        s.predictedOffer ⟨reference, s.tracker.period⟩ (s.earliestStart l) top.plan (s.terms a).width
          (s.guardFor l (s.terms a).strained) d.toNat (min d.toNat (s.terms a).floor) =
          some (s.offerAt ⟨reference, s.tracker.period⟩ (s.earliestStart l) c (s.guardFor l (s.terms a).strained) d.toNat y n) →
        granted c n y := by
      intro c n y offer
      rw [offer] at run
      refine run.trans (congrArg _ ((State.queried_issue settled room _).trans ?_))
      rw [State.grantOf, flags]
      rfl
    have searched : ∀ c : PlanSpan, s.searchSpan ⟨reference, s.tracker.period⟩ (s.earliestStart l) c
        (s.guardFor l (s.terms a).strained) (min d.toNat (s.terms a).floor) = search c := fun _ => rfl
    refine ⟨fun none => ?_, fun y found => ?_⟩
    · rw [predictedOffer_blocked _ _ _ _ _ _ _ _ ((searched half).trans none)] at run
      exact run.trans (congrArg _ ((State.queried_sendOut settled room _).trans (by rw [flags])))
    · have found := (searched half).trans found
      refine ⟨fun narrow => grants (predictedOffer_half s _ _ _ _ _ _ _ found narrow), fun wide capable => ⟨fun same => ?_, fun other => ?_⟩⟩
      · exact grants (predictedOffer_full s _ _ _ _ _ _ _ found ⟨wide, capable⟩ ((searched _).trans same))
      · exact grants (predictedOffer_narrowed s _ _ _ _ _ _ _ found ⟨wide, capable⟩ (by rwa [searched]))

/-! ## A predicted grant is clear of every burst (R131, R134) -/

/-- The guarded on-intervals that block a span. -/
theorem State.mem_blockingArcs {s : State} {k : Slot} {r : Interferer} {o φ : Nat} {c : Span} (slot : s.table[k] = some r)
    (counting : r.counting = true) (burst : r.emission = .cadenced o (some φ)) (meets : r.span.overlaps c = true) (g : Nat) :
    ⟨(φ : Int) - g, o + 2 * g⟩ ∈ s.blockingArcs c g := by
  have record : r ∈ s.records := by
    rw [State.records_eq_filterMap]
    exact List.mem_filterMap.mpr ⟨k, List.mem_finRange k, slot⟩
  exact List.mem_filterMap.mpr ⟨r, List.mem_filter.mpr ⟨record, by simp [counting, meets]⟩, by rw [Interferer.onArc, burst]⟩

/-- A lane that a query gives a grant took it from an offer. -/
theorem State.evaluate_granted {s : State} {l : Lane} {q : Query} {x : Grant}
    (grows : ((s.evaluate l q).grants.get l).outstanding = (s.grants.get l).outstanding ++ [x]) :
    ∃ top o, s.offer (s.earliestStart l) top (s.terms q.addr).width (s.guardFor l (s.terms q.addr).strained) q.airtime
      (min q.airtime (s.terms q.addr).floor) = some o ∧
      x = s.grantOf l (s.terms q.addr) (s.guardFor l (s.terms q.addr).strained) o := by
  have kept : ∀ m, s.evaluate l q ≠ s.answerQuery l m := by
    intro m same
    rw [same, answerQuery_grants] at grows
    simp at grows
  have moved : s.evaluate l q ≠ s := by
    intro same
    rw [same] at grows
    simp at grows
  have evaluated : s.evaluate l q = s.evaluate l q := rfl
  conv at evaluated => rhs; unfold State.evaluate
  split at evaluated
  case h_6 =>
    split at evaluated
    case isTrue => exact absurd evaluated (kept _)
    case isFalse =>
      split at evaluated
      case h_1 e _ =>
        rw [State.grantQuery_eq] at evaluated
        split at evaluated
        case h_1 o offer =>
          refine ⟨_, o, offer, ?_⟩
          rw [evaluated, State.issue_grants, PerLane.get_set_same, GrantLane.granted] at grows
          exact (List.singleton_inj.mp (List.append_cancel_left grows)).symm
        case h_2 => exact absurd evaluated (kept _)
      case h_2 => exact absurd evaluated moved
  all_goals exact absurd evaluated (kept _)

/-- A predicted offer is the offer of a search that found its start. -/
theorem predictedOffer_spec {s : State} {p : Prediction} {e : AirTime} {top : PlanSpan} {w : Width} {g d dmin : Nat} {o : Offer}
    (offer : s.predictedOffer p e top w g d dmin = some o) :
    ∃ c y n, s.searchSpan p e c g dmin = some y ∧ o = s.offerAt p e c g d y n := by
  unfold State.predictedOffer at offer
  split at offer
  case h_1 => cases offer
  case h_2 y found =>
    split at offer
    case isTrue =>
      split at offer
      case isTrue same => cases offer; exact ⟨_, y, _, same, rfl⟩
      case isFalse => cases offer; exact ⟨_, y, _, found, rfl⟩
    case isFalse => cases offer; exact ⟨_, y, _, found, rfl⟩

/-- A floor of a lookup's terms is positive (Tables 5-1 and 10-4). -/
theorem State.terms_floor_pos {s : State} (params : s.params.Ok) (stations : s.StationsOk) (a : Address) : 0 < (s.terms a).floor := by
  have stranger : 0 < s.params.strangerFloor := by
    have range := (params.inRange .strangerFloor).1
    simp [Numeric.range, Params.numeric] at range
    omega
  unfold State.terms
  split
  · exact stranger
  · exact stranger
  · split
    · rename_i k _ _ _ r slot
      have floor := (stations.record k r slot).floor.1
      dsimp only
      omega
    · exact stranger

/-- A window that begins at a clear start and ends by the next blocking interval meets no copy of any. -/
theorem window_clear {p : Nat} (pos : 0 < p) {arcs : List Arc} {x : Int} {d dmin : Nat} (clear : isClear p arcs x dmin = true)
    (wide : 0 < dmin) {a : Arc} (mem : a ∈ arcs) (long : 0 < a.length) (j : Int) :
    x + capAt p arcs x d ≤ j * p + a.start ∨ j * p + a.start + a.length ≤ x := by
  by_cases before : j * p + a.start < x + dmin
  · exact .inr ((isClear_iff pos _ _ _).mp clear a mem long wide j before)
  · refine .inl ?_
    have distance : a.start + j * p = x + (j * p + a.start - x).toNat := by omega
    have := capAt_le_of_begins (d := d) mem distance
    omega

/-- Settles O33: the grant is the offer of a search that found a clear start, and its cap ends by the next burst. -/
theorem predictedGrantIsClearOfBursts : Obligations.PredictedGrantIsClearOfBursts := by
  unfold Obligations.PredictedGrantIsClearOfBursts
  intro s t l m a d reference x running settled params tracker table stations turn holder body predicting known mode run grows
  rw [exec_query running turn, State.takeQuery_of_held settled holder, body, parseQuery_bytes] at run
  split at run
  case h_2 =>
    cases run
    rw [State.sendOut_grants] at grows
    have same : ((s.queried l).grants.get l).outstanding = (s.grants.get l).outstanding := rfl
    simp [same] at grows
  case h_1 q parsed =>
    obtain ⟨inside, same⟩ := Option.ite_none_right_eq_some.mp parsed
    cases same
    cases run
    obtain ⟨top, o, offer, rfl⟩ := State.evaluate_granted (s := s.queried l) grows
    rw [State.offer_of_predicting (by exact predicting) (by exact known) (by exact mode)] at offer
    obtain ⟨c, y, n, found, rfl⟩ := predictedOffer_spec offer
    have pos : 0 < s.tracker.period := by have := tracker.periodLow; omega
    obtain ⟨small, clear, -⟩ := searchOffset_some pos found
    have wide : 0 < min d.toNat (s.terms a).floor := Nat.lt_min.mpr ⟨by omega, State.terms_floor_pos params stations a⟩
    refine ⟨capAt_le _ _ _ _, y, small, rfl, fun k r o φ j slot counting burst meets => ?_⟩
    have on := (table k r slot).onDuration o (by rw [burst]; rfl)
    have mem := State.mem_blockingArcs slot counting burst meets (s.guardFor l (s.terms a).strained)
    have apart := window_clear (d := d.toNat) pos clear wide mem (by dsimp only; omega) j
    refine apart.imp (fun before => le_of_le_of_eq (by exact before) ?_) fun past => le_of_eq_of_le ?_ (by exact past)
    · exact (add_sub_assoc _ _ _).symm
    · show j * (s.tracker.period : Int) + φ + o + (s.guardFor l (s.terms a).strained : Nat) = _
      push_cast
      ring

end Sys2Proof.Machine

/-! The lookup (R83, R127, R129), and OUTCOME written out on a settled part (R144 to R149). -/

namespace Sys2Proof.Machine

open Sys2Proof

/-! ## The lookup (R83) -/

section

variable {s : State} {a : Address}

theorem State.findPrimary_some {k : StationSlot} (found : s.findPrimary a = some k) :
    ∃ r, s.stations[k] = some r ∧ r.primary = a := by
  have := List.find?_some found
  simpa [Option.any_eq_true] using this

theorem State.findAlias_some {k : StationSlot} (found : s.findAlias a = some k) :
    ∃ r, s.stations[k] = some r ∧ r.aliasAddr = some a := by
  have := List.find?_some found
  simpa [Option.any_eq_true] using this

theorem State.findPrimary_none (none : s.findPrimary a = .none) {k : StationSlot} {r : Station} (slot : s.stations[k] = some r) :
    r.primary ≠ a := by
  have := List.find?_eq_none.mp none k (List.mem_finRange k)
  rw [slot] at this
  simpa using this

theorem State.findAlias_none (none : s.findAlias a = .none) {k : StationSlot} {r : Station} (slot : s.stations[k] = some r) :
    r.aliasAddr ≠ some a := by
  have := List.find?_eq_none.mp none k (List.mem_finRange k)
  rw [slot] at this
  simpa using this

/-- The lookup of an address that one record has. -/
theorem State.lookup_of_uses (ok : s.StationsOk) (individual : a.isGroup = false) {k : StationSlot} {r : Station}
    (slot : s.stations[k] = some r) (uses : r.primary = a ∨ r.aliasAddr = some a) : ∃ byAlias, s.lookup a = .station k byAlias := by
  have used : r.uses a = true := (Station.uses_iff r a).mpr uses
  rw [State.lookup, if_neg (by simp [individual])]
  cases primary : s.findPrimary a with
  | some j =>
    obtain ⟨q, other, rfl⟩ := State.findPrimary_some primary
    exact ⟨false, by rw [ok.apart j k q r q.primary other slot ((Station.uses_iff q _).mpr (.inl rfl)) used]⟩
  | none =>
    cases second : s.findAlias a with
    | some j =>
      obtain ⟨q, other, named⟩ := State.findAlias_some second
      exact ⟨true, by rw [ok.apart j k q r a other slot ((Station.uses_iff q _).mpr (.inr named)) used]⟩
    | none =>
      exact absurd uses (not_or.mpr ⟨State.findPrimary_none primary slot, State.findAlias_none second slot⟩)

theorem State.lookup_of_unused (individual : a.isGroup = false)
    (unused : ∀ (k : StationSlot) (r : Station), s.stations[k] = some r → r.primary ≠ a ∧ r.aliasAddr ≠ some a) :
    s.lookup a = .stranger := by
  rw [State.lookup, if_neg (by simp [individual])]
  cases primary : s.findPrimary a with
  | some j =>
    obtain ⟨q, slot, named⟩ := State.findPrimary_some primary
    exact absurd named (unused j q slot).1
  | none =>
    cases second : s.findAlias a with
    | some j =>
      obtain ⟨q, slot, named⟩ := State.findAlias_some second
      exact absurd named (unused j q slot).2
    | none => rfl

end

/-- Settles O32: the lookup finds the one record that has the address; E is the later of the lead time and the end of the
other grant. -/
theorem lookupGivesTheTerms : Obligations.LookupGivesTheTerms := by
  unfold Obligations.LookupGivesTheTerms
  refine ⟨fun s a group => ?_, fun s a k r ok individual slot uses => ?_, fun s a individual unused => ?_, fun s l none => ?_,
    fun s l x one => ?_⟩
  · rw [State.terms, State.lookup, if_pos group]
  · obtain ⟨byAlias, found⟩ := State.lookup_of_uses ok individual slot uses
    rw [State.terms, found]
    dsimp only
    rw [slot]
    rfl
  · rw [State.terms, State.lookup_of_unused individual unused]
  · rw [State.earliestStart, none]
    rfl
  · rw [State.earliestStart, one]
    show laterOf _ _ = _
    simp only [laterOf, before, Bool.and_eq_true, decide_eq_true_eq]
    rfl

/-! ## The body of an OUTCOME (R144) -/

theorem parseOutcome_bytes (id r : Byte) (used : Half) : parseOutcome ([id, r] ++ halfBytes used) =
    match Outcome.ofByte? r with
    | some r => if used.toNat ≤ 8000 then some ⟨id, r, used.toNat⟩ else none
    | none => none := by
  show (match Outcome.ofByte? r with
    | some r => if (half _ _).toNat ≤ 8000 then some (OutcomeReport.mk id r (half _ _).toNat) else none
    | none => none) = _
  rw [half_extract]

theorem exec_outcome {s : State} (running : s.resetN = true) (settled : s.resets = []) {l : Lane} {m : Held}
    (holder : (s.links.get l).holder = some m) (kind : m.kind = .outcome) : exec (.outcome l) s =
      .next (match parseOutcome m.body with
        | some o => (s.emptyHolder l).applyOutcome l o
        | none => (s.emptyHolder l).sendOut .gre l (.nak .malformed InKind.outcome.byte)) := by
  show execOutcome l s = _
  rw [execOutcome, event_of_running s _ running, if_pos (kind ▸ State.holds_of_some holder), State.takeOutcome,
    State.heldBody_of_none settled, holder]
  rfl

/-- An answer on a lane whose holder has been emptied. -/
theorem State.emptyHolder_sendOut {s : State} (settled : s.resets = []) {l : Lane} (room : (s.links.get l).outbound.length < 16)
    (src : Block) (x : OutMsg) : (s.emptyHolder l).sendOut src l x = { s with
      links := s.links.set l { s.links.get l with holder := none, outbound := (s.links.get l).outbound ++ [x] } } := by
  rw [sendOut_of_room _ (by exact settled) _ _ _ (by simpa [emptyHolder] using room)]
  simp [emptyHolder, setLink]

/-! ## The parts of a closure by OUTCOME (R144 to R149) -/

/-- The counter claims of a closure. -/
def claimsFor (x : Grant) (r : ClaimResult) : List Handed :=
  match x.cls with
  | .primary a => [.counterClaim a r]
  | .stranger => []
  | .group => []

namespace State

variable {s : State} {l : Lane}

theorem claimFor_of_none (settled : s.resets = []) (x : Grant) (r : ClaimResult) :
    s.claimFor x r = { s with handed := s.handed ++ claimsFor x r } := by
  unfold claimFor claimsFor
  cases x.cls with
  | primary a => exact hand_of_none s settled _ _
  | stranger => simp
  | group => simp

/-- The notice of an edge guard that takes a value. -/
def guardNotice (s : State) (l : Lane) (n : Nat) : List Handed :=
  if n = (s.grants.get l).edgeGuard then [] else [.guardChangeNotice l]

/-- The lane's OK run and edge guard take values, with a guard-change notice when the guard is new (R149). -/
def rerunning (s : State) (l : Lane) (run guard : Nat) : State := { s with
  grants := s.grants.set l { s.grants.get l with okRun := run, edgeGuard := guard }
  handed := s.handed ++ s.guardNotice l guard }

theorem setOkRun_moveGuard (settled : s.resets = []) (run guard : Nat) :
    (s.setOkRun l run).moveGuard l guard = s.rerunning l run guard := by
  rw [moveGuard_of_none (by exact settled)]
  simp [rerunning, setOkRun, setGrant, guardNotice]

theorem setOkRun_eq (run : Nat) : s.setOkRun l run = s.rerunning l run (s.grants.get l).edgeGuard := by
  simp [rerunning, setOkRun, setGrant, guardNotice]

/-- An OK outcome on the run and the guard (R147). -/
theorem creditLane_of_none (settled : s.resets = []) : s.creditLane l =
    s.rerunning l
      (if s.params.guardRelaxRun ≤ (s.grants.get l).okRun + 1 then 0 else (s.grants.get l).okRun + 1)
      (if s.params.guardRelaxRun ≤ (s.grants.get l).okRun + 1 then
        max ((s.grants.get l).edgeGuard - s.params.guardStep) s.params.guardFloor else (s.grants.get l).edgeGuard) := by
  unfold creditLane
  dsimp only
  split
  · exact setOkRun_moveGuard settled _ _
  · exact setOkRun_eq _

/-- A LOST outcome on the run and the guard (R148). -/
theorem chargeLane_of_none (settled : s.resets = []) (x : Grant) : s.chargeLane l x =
    s.rerunning l 0
      (if s.edgeLoss x then min ((s.grants.get l).edgeGuard + s.params.guardStep) s.params.guardCeiling
        else (s.grants.get l).edgeGuard) := by
  unfold chargeLane
  have edge : (s.setOkRun l 0).edgeLoss x = s.edgeLoss x := rfl
  have guard : ((s.setOkRun l 0).grants.get l).edgeGuard = (s.grants.get l).edgeGuard := by simp [setOkRun, setGrant]
  dsimp only
  rw [edge, guard]
  split
  · exact setOkRun_moveGuard settled _ _
  · exact setOkRun_eq _

/-- The part once a grant has left its lane and its closure is answered. -/
def closing (s : State) (l : Lane) (id : Byte) (rest : List Grant) (code : ClosingCode) (used : Nat) : State := { s with
  links := s.links.set l { s.links.get l with
    holder := none, outbound := (s.links.get l).outbound ++ [.outcomeAnswer .accepted id] }
  grants := s.grants.set l { s.grants.get l with outstanding := rest, lastClosure := some ⟨id, code, some used⟩ } }

/-- The closing steps of a well-formed OUTCOME for a held grant. -/
theorem applyOutcome_of_split (settled : s.resets = []) (room : (s.links.get l).outbound.length < 16) {before after : List Grant}
    {x : Grant} {o : OutcomeReport} (split : (s.grants.get l).outstanding = before ++ x :: after) (named : x.id = o.id)
    (first : ∀ y ∈ before, y.id ≠ o.id) : (s.emptyHolder l).applyOutcome l o =
      ((s.closing l o.id (before ++ after) (Outcome.code o.result) o.used).settleOutcome l x o.result).noticeDrain l := by
  have found := findGrant_of_split (s := s.emptyHolder l) split named first
  have removed := removeGrant_of_split (s := s.emptyHolder l) split named first (Outcome.code o.result) (some o.used)
  rw [applyOutcome, found]
  dsimp only
  rw [removed, sendOut_of_room _ (by exact settled) _ _ _ (by simpa [emptyHolder, setGrant] using room)]
  simp [emptyHolder, setGrant, setLink, closing]

end State

/-- The whole effect of a closure that moves the run and the guard, with the work it hands in its order (R149). -/
theorem State.closing_rerunning {s : State} (settled : s.resets = []) (l : Lane) (id : Byte) (rest : List Grant) (code : ClosingCode)
    (used : Nat) (claims : List Handed) (run guard : Nat) :
    (State.rerunning { s.closing l id rest code used with handed := s.handed ++ claims } l run guard).noticeDrain l = { s with
      links := s.links.set l { s.links.get l with
        holder := none, outbound := (s.links.get l).outbound ++ [.outcomeAnswer .accepted id] }
      grants := s.grants.set l { s.grants.get l with
        outstanding := rest, lastClosure := some ⟨id, code, some used⟩, okRun := run, edgeGuard := guard }
      handed := s.handed ++ claims ++ s.guardNotice l guard ++ (if rest = [] then [.drainNotice l] else []) } := by
  rw [State.noticeDrain_of_none (by exact settled)]
  simp [State.rerunning, State.closing, State.guardNotice]

theorem Outcome.ofByte?_of_large {r : Byte} (large : 2 < r.toNat) : Outcome.ofByte? r = none := by
  have zero : r ≠ 0 := by rintro rfl; simp at large
  have one : r ≠ 1 := by rintro rfl; simp at large
  have two : r ≠ 2 := by rintro rfl; simp at large
  rw [Outcome.ofByte?, if_neg zero, if_neg one, if_neg two]

theorem Outcome.ofByte?_of_small {r : Byte} (small : r.toNat ≤ 2) : ∃ x, Outcome.ofByte? r = some x := by
  have cases : r = 0 ∨ r = 1 ∨ r = 2 := by bv_omega
  rcases cases with rfl | rfl | rfl <;> exact ⟨_, rfl⟩

/-! ## The statements -/

/-- Settles O37. -/
theorem outcomeClosesOrIsTooLate : Obligations.OutcomeClosesOrIsTooLate := by
  unfold Obligations.OutcomeClosesOrIsTooLate
  intro s l m id r used running settled holder kind body room
  have run := exec_outcome running settled holder kind
  rw [body, parseOutcome_bytes] at run
  refine ⟨fun bad => ?_, fun small fits other => ?_, fun before after x two fits split named first => ?_⟩
  · have malformed : (match Outcome.ofByte? r with
        | some r => if used.toNat ≤ 8000 then some (OutcomeReport.mk id r used.toNat) else none
        | none => none) = none := by
      rcases bad with large | long
      · rw [Outcome.ofByte?_of_large large]
      · cases Outcome.ofByte? r with
        | none => rfl
        | some r => exact if_neg (Nat.not_le_of_lt long)
    rw [malformed] at run
    exact run.trans (congrArg _ (State.emptyHolder_sendOut settled room _ _))
  · obtain ⟨x, known⟩ := Outcome.ofByte?_of_small small
    rw [known] at run
    dsimp only at run
    rw [if_pos fits] at run
    have missing : (s.emptyHolder l).findGrant l id = none :=
      List.find?_eq_none.mpr fun y mem => by simpa using other y mem
    refine run.trans (congrArg _ (Eq.trans ?_ (State.emptyHolder_sendOut settled room .gre _)))
    dsimp only
    rw [State.applyOutcome, missing]
  · subst two
    have known : Outcome.ofByte? 2 = some .abandoned := rfl
    rw [known] at run
    dsimp only at run
    rw [if_pos fits] at run
    refine run.trans (congrArg _ ((State.applyOutcome_of_split settled room split named first).trans ?_))
    refine (State.noticeDrain_of_none (by exact settled)).trans ?_
    simp [State.settleOutcome, State.closing, State.Outcome.code]

/-- Settles O38. -/
theorem okOutcomeRelaxesTheGuard : Obligations.OkOutcomeRelaxesTheGuard := by
  unfold Obligations.OkOutcomeRelaxesTheGuard
  intro s l m id used before after x running settled holder kind body fits room split named first relax guard
  have run := exec_outcome running settled holder kind
  have known : Outcome.ofByte? 0 = some .ok := rfl
  rw [body, parseOutcome_bytes, known] at run
  dsimp only at run
  rw [if_pos fits] at run
  refine run.trans (congrArg _ ((State.applyOutcome_of_split settled room split named first).trans ?_))
  rw [State.settleOutcome, State.claimFor_of_none (by exact settled), State.creditLane_of_none (by exact settled)]
  refine (State.closing_rerunning settled l id _ _ _ _ _ _).trans ?_
  simp only [State.closing, PerLane.get_set_same, State.guardNotice, relax, guard, decide_eq_true_eq]
  rfl

/-! ## The edge-loss test (R148) -/

theorem State.exists_of_mem_blockingArcs {s : State} {c : Span} {g : Nat} {a : Arc} (mem : a ∈ s.blockingArcs c g) :
    ∃ (k : Slot) (r : Interferer) (o φ : Nat), s.table[k] = some r ∧ r.counting = true ∧ r.emission = .cadenced o (some φ) ∧
      r.span.overlaps c = true ∧ a = ⟨(φ : Int) - g, o + 2 * g⟩ := by
  obtain ⟨r, record, arc⟩ := List.mem_filterMap.mp mem
  obtain ⟨record, counts⟩ := List.mem_filter.mp record
  rw [State.records_eq_filterMap] at record
  obtain ⟨k, -, slot⟩ := List.mem_filterMap.mp record
  obtain ⟨counting, meets⟩ := Bool.and_eq_true_iff.mp counts
  unfold Interferer.onArc at arc
  split at arc
  case h_1 o φ burst => exact ⟨k, r, o, φ, slot, counting, burst, meets, (Option.some.inj arc).symm⟩
  all_goals cases arc

/-- The grant's window, extended by twice its guard at each end, meets a guarded burst of a counting record over its span. -/
theorem State.edgeLoss_iff {s : State} (ok : s.tracker.Ok) {x : Grant} (wide : 0 < x.cap) : s.edgeLoss x = true ↔
    ∃ (reference : AirTime) (k : Slot) (r : Interferer) (o φ : Nat) (j : Int),
      (s.tracker.state = .locked ∨ s.tracker.state = .holdover) ∧ s.tracker.reference = some reference ∧
      s.table[k] = some r ∧ r.counting = true ∧ r.emission = .cadenced o (some φ) ∧
      r.span.overlaps x.span.span = true ∧ 0 < o + 2 * x.guard ∧
      (let start : Int := signedDiff reference x.start
       let burst : Int := j * s.tracker.period + φ
       start - 2 * x.guard < burst + o + x.guard ∧ burst - x.guard < start + x.cap + 2 * x.guard) := by
  have pos : 0 < s.tracker.period := by have := ok.periodLow; omega
  unfold State.edgeLoss
  constructor
  · intro edge
    split at edge
    case h_1 => cases edge
    case h_2 p predicted =>
      obtain ⟨state, known, period⟩ := (Tracker.prediction_iff _ _).mp predicted
      obtain ⟨a, mem, meets⟩ := List.any_eq_true.mp edge
      obtain ⟨k, r, o, φ, slot, counting, burst, overlap, rfl⟩ := State.exists_of_mem_blockingArcs mem
      rw [period] at meets
      obtain ⟨long, -, j, before, after⟩ := (Arc.meets_iff pos _ _).mp meets
      refine ⟨p.reference, k, r, o, φ, j, state, known, slot, counting, burst, overlap, long, ?_⟩
      dsimp only at before after ⊢
      push_cast at before after
      omega
  · rintro ⟨reference, k, r, o, φ, j, state, known, slot, counting, burst, overlap, long, after, before⟩
    rw [Tracker.prediction_of_predicting state known]
    refine List.any_eq_true.mpr ⟨_, State.mem_blockingArcs slot counting burst overlap x.guard, (Arc.meets_iff pos _ _).mpr
      ⟨long, by dsimp only; omega, j, ?_⟩⟩
    dsimp only at before after ⊢
    push_cast
    omega

/-- Settles O39. -/
theorem edgeLossWidensTheGuard : Obligations.EdgeLossWidensTheGuard := by
  unfold Obligations.EdgeLossWidensTheGuard
  intro s l m id used before after x running settled ok holder kind body fits room split named first wide
  refine ⟨s.edgeLoss x, State.edgeLoss_iff ok wide, ?_⟩
  have run := exec_outcome running settled holder kind
  have known : Outcome.ofByte? 1 = some .lost := rfl
  rw [body, parseOutcome_bytes, known] at run
  dsimp only at run
  rw [if_pos fits] at run
  intro guard
  refine run.trans (congrArg _ ((State.applyOutcome_of_split settled room split named first).trans ?_))
  rw [State.settleOutcome, State.claimFor_of_none (by exact settled), State.chargeLane_of_none (by exact settled)]
  refine (State.closing_rerunning settled l id _ _ _ _ _ _).trans ?_
  simp only [State.closing, PerLane.get_set_same, State.guardNotice]
  rfl

end Sys2Proof.Machine

/-! Counter claims and steering, written out on a settled part (R88 to R92). -/

namespace Sys2Proof.Machine

open Sys2Proof

/-! ## The advised-station set (R92) -/

section

variable {s : State}

theorem State.unadvise_of_none (settled : s.resets = []) (k : StationSlot) :
    s.unadvise k = { s with advised := s.advised &&& ~~~(1#64 <<< (k.val + 1)) } :=
  if_neg (by simp [State.crossesReset_of_none s settled])

theorem State.advise_of_none (settled : s.resets = []) (k : StationSlot) :
    s.advise k = { s with advised := s.advised ||| 1#64 <<< (k.val + 1) } :=
  if_neg (by simp [State.crossesReset_of_none s settled])

/-! ## Counter claims (R88, R89) -/

/-- The one record with a primary address is the one that the claim finds. -/
theorem State.findPrimary_of_primary (ok : s.StationsOk) {k : StationSlot} {r : Station} (slot : s.stations[k] = some r) :
    s.findPrimary r.primary = some k := by
  have uses : r.uses r.primary = true := (Station.uses_iff r _).mpr (.inl rfl)
  cases found : s.findPrimary r.primary with
  | some j =>
    obtain ⟨q, other, same⟩ := State.findPrimary_some found
    rw [ok.apart j k q r r.primary other slot ((Station.uses_iff q _).mpr (.inl same)) uses]
  | none => exact absurd rfl (State.findPrimary_none found slot)

theorem State.findPrimary_of_unused {a : Address}
    (unused : ∀ (k : StationSlot) (r : Station), s.stations[k] = some r → r.primary ≠ a) : s.findPrimary a = none := by
  cases found : s.findPrimary a with
  | some j =>
    obtain ⟨q, slot, same⟩ := State.findPrimary_some found
    exact absurd same (unused j q slot)
  | none => rfl

/-- A claim of the record's own primary address. -/
theorem State.counterClaim_of_primary (ok : s.StationsOk) {k : StationSlot} {r : Station} (slot : s.stations[k] = some r)
    (x : ClaimResult) : s.counterClaim r.primary x =
      match x with
      | .ok => if (r.creditOk s.params.recoverRun).condition = r.condition then s.setStation k (some (r.creditOk s.params.recoverRun))
        else (s.setStation k (some (r.creditOk s.params.recoverRun))).unadvise k
      | .lost => if (r.chargeLoss s.params.strainLosses).condition = r.condition then
          s.setStation k (some (r.chargeLoss s.params.strainLosses))
        else (s.setStation k (some (r.chargeLoss s.params.strainLosses))).hand .stb (.steeringRequest (steeringRequestOf k r)) := by
  cases x <;> simp only [State.counterClaim, State.findPrimary_of_primary ok slot, slot]

/-- A LOST claim at the limit makes a NORMAL record STRAINED. -/
theorem Station.chargeLoss_of_limit {r : Station} {n : Nat} (limit : r.condition = .normal ∧ n ≤ min 15 (r.lossStreak + 1)) :
    r.chargeLoss n = { r with lossStreak := min 15 (r.lossStreak + 1), okRun := 0, condition := .strained } := by
  rw [Station.chargeLoss]
  rw [if_pos limit.2]

/-- Any other LOST claim leaves the condition as it is. -/
theorem Station.chargeLoss_of_not {r : Station} {n : Nat} (not : ¬(r.condition = .normal ∧ n ≤ min 15 (r.lossStreak + 1))) :
    r.chargeLoss n = { r with lossStreak := min 15 (r.lossStreak + 1), okRun := 0 } := by
  have kept : (if n ≤ min 15 (r.lossStreak + 1) then .strained else r.condition) = r.condition := by
    split
    case isTrue reached =>
      cases condition : r.condition with
      | normal => exact absurd ⟨condition, reached⟩ not
      | strained => rfl
    case isFalse => rfl
  rw [Station.chargeLoss]
  rw [kept]

end

/-- Settles O41: the claim finds the one record of its address, whose condition changes exactly at the limit. -/
theorem counterClaimsMoveTheStation : Obligations.CounterClaimsMoveTheStation := by
  unfold Obligations.CounterClaimsMoveTheStation
  intro s a running settled ok
  have run : ∀ x, exec (.counterClaim a x) s = .next ((s.taking (.counterClaim a x)).counterClaim a x) :=
    fun x => event_of_running s (fun s => (s.taking (.counterClaim a x)).counterClaim a x) running
  refine ⟨fun x unused => ?_, fun k r slot named => ?_⟩
  · rw [run, State.counterClaim, State.findPrimary_of_unused (by exact unused)]
    rfl
  · subst named
    constructor
    · intro ran recovers
      rw [run, State.counterClaim_of_primary (by exact ⟨ok.record, ok.apart⟩) (by exact slot)]
      by_cases limit : r.condition = .strained ∧ s.params.recoverRun ≤ min 15 (r.okRun + 1)
      · have credited : r.creditOk s.params.recoverRun =
            { r with lossStreak := 0, okRun := ran, condition := .normal, advice := none } := if_pos limit
        have recovered : recovers = true := decide_eq_true limit
        dsimp only
        rw [show (s.taking _).params = s.params from rfl, credited, if_neg (by simp [limit.1]), State.unadvise_of_none (by exact settled), recovered]
        rfl
      · have credited : r.creditOk s.params.recoverRun = { r with lossStreak := 0, okRun := ran } := if_neg limit
        have not : recovers = false := decide_eq_false limit
        dsimp only
        rw [show (s.taking _).params = s.params from rfl, credited, if_pos rfl, not]
        rfl
    · intro streak strains
      rw [run, State.counterClaim_of_primary (by exact ⟨ok.record, ok.apart⟩) (by exact slot)]
      by_cases limit : r.condition = .normal ∧ s.params.strainLosses ≤ min 15 (r.lossStreak + 1)
      · have strained : strains = true := decide_eq_true limit
        dsimp only
        rw [show (s.taking _).params = s.params from rfl, Station.chargeLoss_of_limit limit, if_neg (by simp [limit.1]),
          State.hand_of_none _ (by exact settled), strained]
        rfl
      · have not : strains = false := decide_eq_false limit
        dsimp only
        rw [show (s.taking _).params = s.params from rfl, Station.chargeLoss_of_not limit, if_pos rfl, not]
        simp only [Bool.false_eq_true, ↓reduceIte, List.append_nil]
        rfl

/-! ## The steering comparison (R90) -/

/-- The better of the best lane so far and the next one; the earlier of two equals. -/
def keepBetter (c : Lane → Option Nat) (best : Option (Lane × Nat)) (l : Lane) : Option (Lane × Nat) :=
  match c l, best with
  | none, _ => best
  | some q, none => some (l, q)
  | some q, some (j, m) => if m < q then some (l, q) else some (j, m)

/-- The best of the lanes: none without a candidate, and otherwise the greatest, the lowest-numbered among equals. -/
structure IsBest (c : Lane → Option Nat) (ls : List Lane) (best : Option (Lane × Nat)) : Prop where
  none : best = .none → ∀ m ∈ ls, c m = .none
  mem : ∀ l q, best = some (l, q) → l ∈ ls ∧ c l = some q
  best : ∀ l q, best = some (l, q) → ∀ m ∈ ls, ∀ x, c m = some x → x < q ∨ (x = q ∧ l.toNat ≤ m.toNat)

theorem IsBest.step {c : Lane → Option Nat} {ls : List Lane} {best : Option (Lane × Nat)} (is : IsBest c ls best) {l : Lane}
    (last : ∀ k ∈ ls, k.toNat ≤ l.toNat) : IsBest c (ls ++ [l]) (keepBetter c best l) := by
  have members : ∀ m, m ∈ ls ++ [l] ↔ m ∈ ls ∨ m = l := by simp
  unfold keepBetter
  cases value : c l with
  | none =>
    refine ⟨fun none m mem => ?_, fun k q found => ?_, fun k q found m mem x candidate => ?_⟩
    · rcases (members m).mp mem with mem | rfl
      · exact is.none none m mem
      · exact value
    · exact ⟨(members k).mpr (.inl (is.mem k q found).1), (is.mem k q found).2⟩
    · rcases (members m).mp mem with mem | rfl
      · exact is.best k q found m mem x candidate
      · cases value.symm.trans candidate
  | some q =>
    cases best with
    | none =>
      refine ⟨nofun, fun k n found => ?_, fun k n found m mem x candidate => ?_⟩
      · cases found
        exact ⟨(members l).mpr (.inr rfl), value⟩
      · cases found
        rcases (members m).mp mem with mem | rfl
        · cases (is.none rfl m mem).symm.trans candidate
        · cases value.symm.trans candidate
          exact .inr ⟨rfl, Nat.le_refl _⟩
    | some best =>
      obtain ⟨j, n⟩ := best
      obtain ⟨jmem, jvalue⟩ := is.mem j n rfl
      have jbest := is.best j n rfl
      dsimp only
      split
      case isTrue better =>
        refine ⟨nofun, fun k x found => ?_, fun k x found m mem y candidate => ?_⟩
        · cases found
          exact ⟨(members l).mpr (.inr rfl), value⟩
        · cases found
          rcases (members m).mp mem with mem | rfl
          · have := jbest m mem y candidate
            omega
          · cases value.symm.trans candidate
            exact .inr ⟨rfl, Nat.le_refl _⟩
      case isFalse worse =>
        refine ⟨nofun, fun k x found => ?_, fun k x found m mem y candidate => ?_⟩
        · cases found
          exact ⟨(members j).mpr (.inl jmem), jvalue⟩
        · cases found
          rcases (members m).mp mem with mem | rfl
          · exact jbest m mem y candidate
          · cases value.symm.trans candidate
            have := last j jmem
            omega

theorem isBest_all (c : Lane → Option Nat) : IsBest c Lane.all (Lane.all.foldl (keepBetter c) none) := by
  have empty : IsBest c [] none := ⟨nofun, nofun, nofun⟩
  exact ((empty.step (l := .l0) (by decide)).step (l := .l1) (by decide)).step (l := .l2) (by decide)

theorem Lane.mem_all (l : Lane) : l ∈ Lane.all := by cases l <;> decide

theorem State.steer_eq (s : State) (r : SteeringRequest) {home : Nat} (known : s.steerFraction r.width r.home = some home) :
    s.steer r = (Lane.all.foldl (keepBetter (s.steerCandidate r home)) none).map (·.1) := by
  rw [State.steer, known]
  rfl

/-- The clear fraction compared, over the span that a station of the width uses. -/
theorem State.steerFraction_eq (s : State) (w : Width) (l : Lane) : s.steerFraction w l =
    ((s.plans.get l).stack.getLast?).bind fun top => s.clearFraction
      (match w with
        | .w40 => top.plan.span
        | .w20 => PlanSpan.span ⟨top.plan.primary, .w20⟩) (s.grants.get l).edgeGuard := by
  unfold State.steerFraction PlanLane.top
  cases (s.plans.get l).stack.getLast? with
  | none => rfl
  | some top => cases w <;> rfl

theorem State.steerCandidate_iff (s : State) (r : SteeringRequest) (home : Nat) (l : Lane) (q : Nat) :
    s.steerCandidate r home l = some q ↔ l ≠ r.home ∧ (s.plans.get l).state ≠ .disabled ∧
      r.bands.has (s.plans.get l).band = true ∧ s.steerFraction r.width l = some q ∧ home + s.params.steerMargin ≤ q := by
  simp [State.steerCandidate, Option.filter_eq_some_iff, and_assoc]

/-- A steering result that names a lane for a STRAINED record of its address and home lane. -/
theorem State.applySteering_of_named {s : State} (settled : s.resets = []) {x : SteeringResult} {r : Station} {l : Lane}
    (slot : s.stations[x.slot] = some r) (same : r.primary = x.primary ∧ r.condition = .strained ∧ r.home = x.home)
    (named : x.named = some l) : s.applySteering x = { s with
      stations := s.stations.set x.slot (some { r with advice := some l })
      advised := s.advised ||| 1#64 <<< (x.slot.val + 1) } := by
  rw [State.applySteering, slot]
  dsimp only
  rw [if_pos same, named]
  exact State.advise_of_none (by exact settled) _

theorem State.applySteering_of_other {s : State} {x : SteeringResult}
    (other : x.named = none ∨ s.stations[x.slot] = none ∨
      ∃ r, s.stations[x.slot] = some r ∧ (r.primary ≠ x.primary ∨ r.condition ≠ .strained ∨ r.home ≠ x.home)) :
    s.applySteering x = s := by
  unfold State.applySteering
  obtain unnamed | free | ⟨r, slot, differs⟩ := other
  · rw [unnamed]
    cases s.stations[x.slot] with
    | none => rfl
    | some r => exact ite_self s
  · rw [free]
  · rw [slot]
    exact if_neg fun ⟨primary, condition, home⟩ => by simp [primary, condition, home] at differs

theorem exec_steeringRequest {s : State} (running : s.resetN = true) (r : SteeringRequest) : exec (.steeringRequest r) s =
    .next ((s.taking (.steeringRequest r)).hand .pls (.steeringResult ⟨r.slot, r.primary, r.home, s.steer r⟩)) :=
  event_of_running s
    (fun s => (s.taking (.steeringRequest r)).hand .pls (.steeringResult ⟨r.slot, r.primary, r.home, s.steer r⟩)) running

theorem exec_steeringResult {s : State} (running : s.resetN = true) (x : SteeringResult) :
    exec (.steeringResult x) s = .next ((s.taking (.steeringResult x)).applySteering x) :=
  event_of_running s (fun s => (s.taking (.steeringResult x)).applySteering x) running

/-- Settles O42: the best candidate by the comparison, then the result applied. -/
theorem steeringIsRequestedAndApplied : Obligations.SteeringIsRequestedAndApplied := by
  unfold Obligations.SteeringIsRequestedAndApplied
  refine ⟨fun s r running settled => ?_, fun s x running settled => ⟨fun r l slot primary condition home named => ?_, fun other => ?_⟩⟩
  · intro compared fraction
    have fractions : ∀ l, fraction l = s.steerFraction r.width l := fun l => (s.steerFraction_eq r.width l).symm
    refine ⟨s.steer r, (exec_steeringRequest running r).trans (congrArg _ (State.hand_of_none _ (by exact settled) _ _)), fun unknown => ?_,
      fun home known => ?_⟩
    · rw [State.steer, ← fractions, unknown]
    · have is := isBest_all (s.steerCandidate r home)
      rw [State.steer_eq s r ((fractions _).symm.trans known)]
      simp only [fractions, ← s.steerCandidate_iff r home]
      generalize Lane.all.foldl (keepBetter (s.steerCandidate r home)) none = best at is
      refine ⟨fun none l q candidate => ?_, fun l found => ?_⟩
      · cases (is.none (Option.map_eq_none_iff.mp none) l (Lane.mem_all l)).symm.trans candidate
      · obtain ⟨⟨k, q⟩, chosen, rfl⟩ := Option.map_eq_some_iff.mp found
        exact ⟨q, (is.mem k q chosen).2, fun m y candidate => is.best k q chosen m (Lane.mem_all m) y candidate⟩
  · exact (exec_steeringResult running x).trans
      (congrArg _ (State.applySteering_of_named (by exact settled) (by exact slot) ⟨primary, condition, home⟩ named))
  · exact (exec_steeringResult running x).trans (congrArg _ (State.applySteering_of_other (by exact other)))

end Sys2Proof.Machine

/-! The host commands on the Station Table, check by check (R84 to R86). -/

namespace Sys2Proof.Machine

open Sys2Proof

/-! ## Bytes that name a value (Table 11-2) -/

theorem Lane.ofByte?_iff (b : Byte) (l : Lane) : Lane.ofByte? b = some l ↔ l.byte = b := by
  cases l <;> revert b <;> decide +kernel

theorem Width.ofByte?_iff (b : Byte) (w : Width) : Width.ofByte? b = some w ↔ w.byte = b := by
  cases w <;> revert b <;> decide +kernel

theorem BandSet.ofByte?_iff (b : Byte) (y : BandSet) : BandSet.ofByte? b = some y ↔ y.byte = b := by
  cases y <;> revert b <;> decide +kernel

/-- A byte that is read as a value names it, and one that names none is not read. -/
theorem read_none_iff {α : Type} {read : Byte → Option α} {byte : α → Byte} (names : ∀ b y, read b = some y ↔ byte y = b)
    (b : Byte) : read b = none ↔ ∀ y, byte y ≠ b := by
  rw [Option.eq_none_iff_forall_ne_some]
  exact forall_congr' fun y => not_congr (names b y)

/-! ## ADMIT (R84) -/

/-- The arguments of an ADMIT that draw BAD_ARGUMENT. -/
def BadAdmit (a : AdmitArgs) : Prop :=
  a.primary.isGroup = true ∨ (∃ x, a.aliasAddr = some x ∧ x.isGroup = true) ∨
    (∀ y : BandSet, y.byte ≠ a.bands) ∨ (∀ y : Width, y.byte ≠ a.width) ∨ (∀ y : Lane, y.byte ≠ a.home) ∨
    ∃ x, a.floor = some x ∧ (x.toNat < 50 ∨ 2000 < x.toNat)

/-- The record that an ADMIT places. -/
def admittedStation (a : AdmitArgs) (bands : BandSet) (width : Width) (home : Lane) : Station where
  primary := a.primary
  aliasAddr := a.aliasAddr
  bands := bands
  width := width
  home := home
  floor := (a.floor.map (·.toNat)).getD 200
  lossStreak := 0
  okRun := 0
  condition := .normal
  advice := none

/-- A floor given out of its range. -/
theorem floor_all_eq_false_iff (floor : Option Half) :
    floor.all floorOk = false ↔ ∃ x, floor = some x ∧ (x.toNat < 50 ∨ 2000 < x.toNat) := by
  cases floor with
  | none => simp
  | some x =>
    have := floorOk_iff x
    simp only [Option.all_some, ← Bool.not_eq_true, this, Option.some.injEq, exists_eq_left']
    omega

/-- The address and floor checks of an ADMIT. -/
theorem admit_values_iff (a : AdmitArgs) :
    (!a.primary.isGroup && !a.aliasAddr.any (·.isGroup) && a.floor.all floorOk) = false ↔
      a.primary.isGroup = true ∨ (∃ x, a.aliasAddr = some x ∧ x.isGroup = true) ∨
        ∃ x, a.floor = some x ∧ (x.toNat < 50 ∨ 2000 < x.toNat) := by
  rw [← floor_all_eq_false_iff]
  simp only [Bool.and_eq_false_iff, Bool.not_eq_false', Option.any_eq_true, or_assoc]

theorem admitted?_of_bad {a : AdmitArgs} (bad : BadAdmit a) : admitted? a = none := by
  have values := admit_values_iff a
  unfold admitted?
  obtain group | second | bands | width | home | floor := bad
  · split
    · exact if_neg (by simp [values.mpr (.inl group)])
    · rfl
  · split
    · exact if_neg (by simp [values.mpr (.inr (.inl second))])
    · rfl
  · rw [(read_none_iff BandSet.ofByte?_iff _).mpr bands]
  · rw [(read_none_iff Width.ofByte?_iff _).mpr width]
    cases BandSet.ofByte? a.bands <;> rfl
  · rw [(read_none_iff Lane.ofByte?_iff _).mpr home]
    cases BandSet.ofByte? a.bands <;> cases Width.ofByte? a.width <;> rfl
  · split
    · exact if_neg (by simp [values.mpr (.inr (.inr floor))])
    · rfl

theorem admitted?_of_good {a : AdmitArgs} (good : ¬BadAdmit a) {bands : BandSet} {width : Width} {home : Lane}
    (bandsByte : bands.byte = a.bands) (widthByte : width.byte = a.width) (homeByte : home.byte = a.home) :
    admitted? a = some (admittedStation a bands width home) := by
  have values : (!a.primary.isGroup && !a.aliasAddr.any (·.isGroup) && a.floor.all floorOk) = true := by
    rw [← Bool.not_eq_false, admit_values_iff]
    exact fun bad => good (bad.imp id (Or.imp id fun floor => .inr (.inr (.inr floor))))
  rw [admitted?, (BandSet.ofByte?_iff _ _).mpr bandsByte, (Width.ofByte?_iff _ _).mpr widthByte, (Lane.ofByte?_iff _ _).mpr homeByte]
  exact if_pos values

/-- Arguments that are not bad name their values. -/
theorem admit_names_of_good {a : AdmitArgs} (good : ¬BadAdmit a) :
    (∃ y : BandSet, y.byte = a.bands) ∧ (∃ y : Width, y.byte = a.width) ∧ ∃ y : Lane, y.byte = a.home := by
  unfold BadAdmit at good
  push Not at good
  exact ⟨good.2.2.1, good.2.2.2.1, good.2.2.2.2.1⟩

/-- The first of the numbers below n that has a property. -/
theorem find?_finRange_of_least {n : Nat} {p : Fin n → Bool} {k : Fin n} (yes : p k = true) (least : ∀ j < k, p j = false) :
    (List.finRange n).find? p = some k := by
  cases found : (List.finRange n).find? p with
  | none => exact absurd yes (List.find?_eq_none.mp found k (List.mem_finRange k))
  | some j =>
    obtain ⟨holds, earlier, later, split, passed⟩ := List.find?_eq_some_iff_append.mp found
    have sorted := List.pairwise_lt_finRange n
    have mem := List.mem_finRange k
    rw [split] at sorted mem
    rcases List.mem_append.mp mem with before | after
    · exact absurd yes (by simpa using passed k before)
    · rcases List.mem_cons.mp after with rfl | after
      · rfl
      · have less := (List.pairwise_cons.mp (List.pairwise_append.mp sorted).2.1).1 k after
        exact absurd holds (by simp [least j less])

section

variable {s : State}

/-- An address that a record uses. -/
theorem State.inUse_iff (x : Address) : s.inUse x = true ↔
    ∃ (k : StationSlot) (r : Station), s.stations[k] = some r ∧ (r.primary = x ∨ r.aliasAddr = some x) := by
  simp only [State.inUse, List.any_eq_true, List.mem_finRange, true_and, Option.any_eq_true, Station.uses_iff]

theorem State.freeStation_of_full (full : ∀ k : StationSlot, s.stations[k] ≠ none) : s.freeStation = none :=
  List.find?_eq_none.mpr fun k _ => by simpa using full k

theorem State.freeStation_of_least {k : StationSlot} (free : s.stations[k] = none)
    (least : ∀ j : StationSlot, j < k → s.stations[j] ≠ none) : s.freeStation = some k := by
  refine find?_finRange_of_least (by simp [free]) fun j less => ?_
  rw [Option.isNone_eq_false_iff, Option.isSome_iff_ne_none]
  exact least j less

end

/-- The answer of an ADMIT whose values are good. -/
theorem admitOwner_of_admitted {a : AdmitArgs} {s : State} {r : Station} (admitted : admitted? a = some r) : admitOwner a s =
    if a.aliasAddr = some a.primary || s.inUse a.primary || a.aliasAddr.any s.inUse then refuse s .duplicate
    else
      match s.freeStation with
      | none => refuse s .full
      | some k => (s.setStation k (some r), ⟨.done, [natByte (stationNumber k)]⟩) := by
  rw [admitOwner, admitted] <;> rfl

/-- The DUPLICATE check of an ADMIT. -/
theorem admit_duplicate_iff (a : AdmitArgs) (s : State) :
    (a.aliasAddr = some a.primary || s.inUse a.primary || a.aliasAddr.any s.inUse) = true ↔
      a.aliasAddr = some a.primary ∨ s.inUse a.primary = true ∨ ∃ x, a.aliasAddr = some x ∧ s.inUse x = true := by
  simp only [Bool.or_eq_true, decide_eq_true_eq, Option.any_eq_true, or_assoc]

/-- Settles O43: the checks of ADMIT in their order, then the record. -/
theorem admitPlacesAStation : Obligations.AdmitPlacesAStation := by
  unfold Obligations.AdmitPlacesAStation
  intro s a ready c refusedWith bad used duplicate
  have refuses : ∀ x, admitOwner a s = refuse s x → refusedWith x := fun x refused => transact_refuse c s _ x ready refused
  have duplicates : duplicate ↔ (a.aliasAddr = some a.primary || s.inUse a.primary || a.aliasAddr.any s.inUse) = true := by
    simp only [admit_duplicate_iff, State.inUse_iff]
    rfl
  refine ⟨fun bad => refuses _ ?_, fun good taken => refuses _ ?_, fun good fresh full => refuses _ ?_,
    fun k bands width home good fresh bandsByte widthByte homeByte free least => ?_⟩
  · rw [admitOwner, admitted?_of_bad bad]
  · obtain ⟨⟨bands, bandsByte⟩, ⟨width, widthByte⟩, ⟨home, homeByte⟩⟩ := admit_names_of_good good
    rw [admitOwner_of_admitted (admitted?_of_good good bandsByte widthByte homeByte)]
    exact if_pos (duplicates.mp taken)
  · obtain ⟨⟨bands, bandsByte⟩, ⟨width, widthByte⟩, ⟨home, homeByte⟩⟩ := admit_names_of_good good
    rw [admitOwner_of_admitted (admitted?_of_good good bandsByte widthByte homeByte), if_neg (mt duplicates.mpr fresh),
      State.freeStation_of_full full]
  · refine (transact_of_ready c s _ ready).trans ?_
    rw [admitOwner_of_admitted (admitted?_of_good good bandsByte.symm widthByte.symm homeByte.symm),
      if_neg (mt duplicates.mpr fresh), State.freeStation_of_least free least]
    rfl

/-! ## RELEASE and the station AMEND (R85, R86) -/

theorem StationRef.ofByte_of_zero {b : Byte} (zero : b.toNat = 0) : StationRef.ofByte b = .group :=
  if_pos (BitVec.eq_of_toNat_eq zero)

theorem StationRef.ofByte_of_large {b : Byte} (large : 64 ≤ b.toNat) : StationRef.ofByte b = .outside := by
  have other : b ≠ 0 := by rintro rfl; simp at large
  rw [StationRef.ofByte, if_neg other, dif_neg (by omega)]

theorem StationRef.ofByte_of_number {b : Byte} {k : StationSlot} (number : b.toNat = k.val + 1) : StationRef.ofByte b = .slot k := by
  have other : b ≠ 0 := by rintro rfl; simp at number
  rw [StationRef.ofByte, if_neg other, dif_pos (by omega)]
  congr
  omega

theorem withStation_of_free {b : Byte} {k : StationSlot} (number : b.toNat = k.val + 1) {s : State} (free : s.stations[k] = none)
    (f : StationSlot → Station → State × Response) : withStation b s f = refuse s .notFound := by
  rw [withStation, StationRef.ofByte_of_number number]
  dsimp only
  rw [free]

theorem withStation_of_held {b : Byte} {k : StationSlot} (number : b.toNat = k.val + 1) {s : State} {r : Station}
    (slot : s.stations[k] = some r) (f : StationSlot → Station → State × Response) : withStation b s f = f k r := by
  rw [withStation, StationRef.ofByte_of_number number]
  dsimp only
  rw [slot]

/-- The arguments of a station AMEND that draw BAD_ARGUMENT. -/
def BadStationAmend (a : StationAmendArgs) : Prop :=
  (∃ x, a.aliasAddr = .value x ∧ x.isGroup = true) ∨
    (∃ x, a.bands = some x ∧ ∀ y : BandSet, y.byte ≠ x) ∨ (∃ x, a.width = some x ∧ ∀ y : Width, y.byte ≠ x) ∨
    (∃ x, a.home = some x ∧ ∀ y : Lane, y.byte ≠ x) ∨
    ∃ x, a.floor = some x ∧ (x.toNat < 50 ∨ 2000 < x.toNat)

/-- The second address of a record after an AMEND. -/
def amendedSecond (held : Option Address) (g : Given Address) : Option Address :=
  match g with
  | .omitted => held
  | .value x => some x
  | .remove => none

/-- The record after an AMEND. -/
def amendedStation (r : Station) (a : StationAmendArgs) (bands : Option BandSet) (width : Option Width) (home : Option Lane) : Station :=
  { r with
    aliasAddr := amendedSecond r.aliasAddr a.aliasAddr
    bands := bands.getD r.bands, width := width.getD r.width, home := home.getD r.home
    floor := (a.floor.map (·.toNat)).getD r.floor
    advice := if home.getD r.home = r.home then r.advice else none }

/-- A field given by a byte that names no value. -/
theorem givenField_none_iff {α : Type} {read : Byte → Option α} {byte : α → Byte} (names : ∀ b y, read b = some y ↔ byte y = b)
    (held : α) (given : Option Byte) : givenField held read given = none ↔ ∃ x, given = some x ∧ ∀ y, byte y ≠ x := by
  cases given with
  | none => simp [givenField]
  | some x => simpa [givenField] using read_none_iff names x

theorem givenField_map {α : Type} {read : Byte → Option α} {byte : α → Byte} (names : ∀ b y, read b = some y ↔ byte y = b)
    (held : α) (value : Option α) : givenField held read (value.map byte) = some (value.getD held) := by
  cases value with
  | none => rfl
  | some y => exact (names _ y).mpr rfl

theorem givenAlias_none_iff (held : Option Address) (g : Given Address) :
    givenAlias held g = none ↔ ∃ x, g = .value x ∧ x.isGroup = true := by
  cases g <;> simp [givenAlias]

theorem givenAlias_of_individual (held : Option Address) {g : Given Address} (individual : ¬∃ x, g = .value x ∧ x.isGroup = true) :
    givenAlias held g = some (amendedSecond held g) := by
  cases g with
  | omitted => rfl
  | value x => exact if_neg fun group => individual ⟨x, rfl, group⟩
  | remove => rfl

theorem amendedStation?_of_bad {r : Station} {a : StationAmendArgs} (bad : BadStationAmend a) : amendedStation? r a = none := by
  unfold amendedStation?
  split
  case h_1 second bands width home given givenBands givenWidth givenHome =>
    obtain group | badBands | badWidth | badHome | floor := bad
    · cases ((givenAlias_none_iff r.aliasAddr _).mpr group).symm.trans given
    · cases ((givenField_none_iff BandSet.ofByte?_iff r.bands _).mpr badBands).symm.trans givenBands
    · cases ((givenField_none_iff Width.ofByte?_iff r.width _).mpr badWidth).symm.trans givenWidth
    · cases ((givenField_none_iff Lane.ofByte?_iff r.home _).mpr badHome).symm.trans givenHome
    · exact if_neg (by simp [(floor_all_eq_false_iff _).mpr floor])
  case h_2 => rfl

theorem amendedStation?_of_good {r : Station} {a : StationAmendArgs} (good : ¬BadStationAmend a) {bands : Option BandSet}
    {width : Option Width} {home : Option Lane} (bandsByte : a.bands = bands.map (·.byte)) (widthByte : a.width = width.map (·.byte))
    (homeByte : a.home = home.map (·.byte)) : amendedStation? r a = some (amendedStation r a bands width home) := by
  have floor : a.floor.all floorOk = true := by
    rw [← Bool.not_eq_false, floor_all_eq_false_iff]
    exact fun bad => good (.inr (.inr (.inr (.inr bad))))
  rw [amendedStation?, givenAlias_of_individual _ fun group => good (.inl group), bandsByte, widthByte, homeByte,
    givenField_map BandSet.ofByte?_iff, givenField_map Width.ofByte?_iff, givenField_map Lane.ofByte?_iff]
  exact if_pos floor

/-- A field given by a byte that names a value is the byte of one. -/
theorem exists_map_byte {α : Type} {byte : α → Byte} {given : Option Byte} (named : ¬∃ x, given = some x ∧ ∀ y, byte y ≠ x) :
    ∃ value : Option α, given = value.map byte := by
  cases given with
  | none => exact ⟨none, rfl⟩
  | some x =>
    push Not at named
    obtain ⟨y, same⟩ := named x rfl
    exact ⟨some y, by rw [Option.map_some, same]⟩

theorem inUseElsewhere_iff (s : State) (k : StationSlot) (x : Address) : s.inUseElsewhere k x = true ↔
    ∃ (j : StationSlot) (q : Station), j ≠ k ∧ s.stations[j] = some q ∧ (q.primary = x ∨ q.aliasAddr = some x) := by
  simp only [State.inUseElsewhere, List.any_eq_true, List.mem_finRange, true_and, Bool.and_eq_true, bne_iff_ne, ne_eq,
    Option.any_eq_true, Station.uses_iff, exists_and_left]

theorem aliasTaken_iff (s : State) (k : StationSlot) (r : Station) (g : Given Address) : aliasTaken s k r g = true ↔
    ∃ x, g = .value x ∧ (x = r.primary ∨ ∃ (j : StationSlot) (q : Station), j ≠ k ∧
      s.stations[j] = some q ∧ (q.primary = x ∨ q.aliasAddr = some x)) := by
  cases g <;> simp [aliasTaken, inUseElsewhere_iff]

/-- Settles O44: the slot's checks, then the fields' and the DUPLICATE check, then the record. -/
theorem releaseAndStationAmend : Obligations.ReleaseAndStationAmend := by
  unfold Obligations.ReleaseAndStationAmend
  intro s a ready settled release amend refusedWith
  have released : ∀ x, releaseOwner a.slot s = refuse s x → refusedWith release x :=
    fun x refused => transact_refuse release s _ x ready refused
  have amended : ∀ x, stationAmendOwner a s = refuse s x → refusedWith amend x :=
    fun x refused => transact_refuse amend s _ x ready refused
  have all : ∀ x, (∀ f, withStation a.slot s f = refuse s x) → refusedWith release x ∧ refusedWith amend x :=
    fun x refused => ⟨released x (refused _), amended x (refused _)⟩
  refine ⟨fun zero => all _ fun f => ?_, fun large => all _ fun f => ?_, fun k number => ⟨fun free => all _ fun f => ?_, fun r slot => ?_⟩⟩
  · rw [withStation, StationRef.ofByte_of_zero zero]
  · rw [withStation, StationRef.ofByte_of_large large]
  · exact withStation_of_free number free f
  · have owner : stationAmendOwner a s = match amendedStation? r a with
        | none => refuse s .badArgument
        | some r' => if aliasTaken s k r a.aliasAddr then refuse s .duplicate
          else (if r'.home = r.home then s.setStation k (some r') else (s.setStation k (some r')).unadvise k, .done) := by
      rw [stationAmendOwner, withStation_of_held number slot] <;> rfl
    refine ⟨(transact_of_ready release s _ ready).trans ?_, fun bad => amended _ ?_, fun good taken => amended _ ?_,
      fun bands width home good free bandsByte widthByte homeByte => (transact_of_ready amend s _ ready).trans ?_⟩
    · rw [releaseOwner, withStation_of_held number slot, State.unadvise_of_none (by exact settled)]
      rfl
    · rw [owner, amendedStation?_of_bad bad]
    · obtain ⟨bands, bandsByte⟩ := exists_map_byte fun bad => good (.inr (.inl bad))
      obtain ⟨width, widthByte⟩ := exists_map_byte fun bad => good (.inr (.inr (.inl bad)))
      obtain ⟨home, homeByte⟩ := exists_map_byte fun bad => good (.inr (.inr (.inr (.inl bad))))
      rw [owner, amendedStation?_of_good good bandsByte widthByte homeByte]
      exact if_pos ((aliasTaken_iff s k r _).mpr taken)
    · rw [owner, amendedStation?_of_good good bandsByte widthByte homeByte]
      dsimp only
      rw [if_neg (mt (aliasTaken_iff s k r _).mp free)]
      by_cases stays : home.getD r.home = r.home
      · rw [if_pos (by exact stays)]
        simp only [amendedStation, if_pos stays]
        rfl
      · rw [if_neg (by exact stays), State.unadvise_of_none (by exact settled)]
        simp only [amendedStation, if_neg stays]
        rfl

end Sys2Proof.Machine

/-! Claims of one host command on the Interferer Table, written out on a settled part (R46, R50 to R52, R55, R56). -/

namespace Sys2Proof.Machine

open Sys2Proof

/-! ## The marks of one slot (R55, R56) -/

theorem noticed_slotBit (k : Slot) : (List.finRange 32).filter (fun j => (slotBit k).getLsbD j.val) = [k] := by
  revert k
  decide +kernel

theorem noticed_zero : (List.finRange 32).filter (fun j => (0 : BitVec 32).getLsbD j.val) = [] := by
  simp

theorem Marks.join_none (m : Marks) : m.join .none = m := by
  simp [Marks.join, Marks.none]

section

variable {s : State} (settled : s.resets = [])

include settled

theorem State.completeClaim_both (k : Slot) : s.completeClaim (.both k) = { s with
    changed := s.changed ||| 1#32 <<< k.val, handed := s.handed ++ [.changeNotice k] } := by
  rw [State.completeClaim_of_none s settled, Marks.both, noticed_slotBit]
  rfl

theorem State.completeClaim_notice (k : Slot) :
    s.completeClaim ⟨slotBit k, 0⟩ = { s with handed := s.handed ++ [.changeNotice k] } := by
  rw [State.completeClaim_of_none s settled, noticed_slotBit]
  simp

theorem State.completeClaim_nothing : s.completeClaim .none = s := by
  rw [State.completeClaim_of_none s settled, Marks.none, noticed_zero]
  simp

/-- The notice and the attention of a change of cadence state (R29). -/
theorem State.notifyCadence_of_none :
    s.notifyCadence = { s with handed := s.handed ++ [.cadenceStateNotice, .attentionSetRequest .cadenceChange] } := by
  rw [State.notifyCadence, State.hand_of_none _ settled, State.request_of_none _ (by exact settled)]
  simp

/-- A change of life state (Table 3-4). -/
theorem State.claimChange_of_life {k : Slot} {old new : Interferer} (life : old.life ≠ new.life) : s.claimChange k old new = { s with
    table := s.table.set k (some new)
    changed := s.changed ||| 1#32 <<< k.val, handed := s.handed ++ [.changeNotice k] } := by
  rw [State.claimChange, changeMarks, if_pos life, State.completeClaim_both (by exact settled)]
  rfl

end

/-! ## The slot checks (R46) -/

section

variable {n : Byte} {s : State} (f : Slot → Interferer → State × Response)

theorem Slot.ofByte?_of_large (large : 32 ≤ n.toNat) : Slot.ofByte? n = none := dif_neg (by omega)

theorem withRecord_of_large (large : 32 ≤ n.toNat) : withRecord n s f = refuse s .badArgument := by
  rw [withRecord, Slot.ofByte?_of_large large]

theorem withRecord_of_free {k : Slot} (number : n.toNat = k.val) (free : s.table[k] = none) : withRecord n s f = refuse s .notFound := by
  rw [withRecord, Slot.ofByte?_of_eq number]
  dsimp only
  rw [free]

theorem withRecord_of_held {k : Slot} (number : n.toNat = k.val) {r : Interferer} (slot : s.table[k] = some r) :
    withRecord n s f = f k r := by
  rw [withRecord, Slot.ofByte?_of_eq number]
  dsimp only
  rw [slot]

end

/-! ## PIN and UNPIN (R50, R51) -/

/-- Settles O46. -/
theorem pinAndUnpin : Obligations.PinAndUnpin := by
  unfold Obligations.PinAndUnpin
  intro s n ready settled answered
  have pin : ∀ {x}, pinOwner n s = x → exec (.pin n) s = .next (x.1.answering (.pin n) x.2) := by
    rintro x rfl
    exact transact_of_ready _ s _ ready
  have unpin : ∀ {x}, unpinOwner n s = x → exec (.unpin n) s = .next (x.1.answering (.unpin n) x.2) := by
    rintro x rfl
    exact transact_of_ready _ s _ ready
  refine ⟨fun large => ⟨pin (withRecord_of_large _ large), unpin (withRecord_of_large _ large)⟩, fun k number =>
    ⟨fun free => ⟨pin (withRecord_of_free _ number free), unpin (withRecord_of_free _ number free)⟩, fun r slot => ?_⟩⟩
  rw [pinOwner, withRecord_of_held _ number slot] at pin
  rw [unpinOwner, withRecord_of_held _ number slot] at unpin
  refine ⟨fun pinned => ⟨pin (if_pos pinned), ?_⟩, fun other => ⟨?_, unpin (if_neg other)⟩⟩
  · refine (unpin (if_pos pinned)).trans ?_
    rw [State.claimChange_of_life settled (by simp [pinned])]
    rfl
  · refine (pin (if_neg other)).trans ?_
    rw [State.claimChange_of_life settled other]
    rfl

/-! ## RETIRE (R52) -/

/-- A CADENCED record is the only kind that has a phase. -/
theorem Interferer.phase_of_not_cadenced {r : Interferer} (other : r.isCadenced = false) : r.phase = none := by
  unfold Interferer.isCadenced at other
  unfold Interferer.phase
  split <;> simp_all

theorem Interferer.withoutPhase_of_not_cadenced {r : Interferer} (other : r.isCadenced = false) :
    { r with emission := r.emission.withoutPhase } = r := by
  obtain ⟨emission, _⟩ := r
  cases emission with
  | cadenced o φ => cases other
  | steady d => rfl
  | sporadic d => rfl

/-- Without a CADENCED record the removal of phases gives no marks. -/
theorem State.phaseMarks_of_none {s : State} (none : ∀ (k : Slot) (r : Interferer), s.table[k] = some r → r.isCadenced = false) :
    s.phaseMarks = .none := by
  unfold State.phaseMarks
  generalize List.finRange 32 = ks
  induction ks with
  | nil => rfl
  | cons k ks ih =>
    rw [List.foldl_cons]
    cases slot : s.table[k] with
    | none => exact ih
    | some r =>
      dsimp only
      rw [Interferer.phase_of_not_cadenced (none k r slot), if_neg (by simp)]
      exact ih

theorem State.removePhases_of_none {s : State} (none : ∀ (k : Slot) (r : Interferer), s.table[k] = some r → r.isCadenced = false) :
    s.removePhases.table = s.table := by
  refine Vector.ext fun i small => ?_
  have same := s.removePhases_table ⟨i, small⟩
  refine same.trans ?_
  cases slot : s.table[(⟨i, small⟩ : Slot)] with
  | none => rfl
  | some r => exact congrArg some (Interferer.withoutPhase_of_not_cadenced (none _ r slot))

theorem State.lowestCadenced_of_least {s : State} {k : Slot} {r : Interferer} (slot : s.table[k] = some r) (cadenced : r.isCadenced = true)
    (least : ∀ (i : Slot) (p : Interferer), i < k → s.table[i] = some p → p.isCadenced = false) : s.lowestCadenced = some k := by
  refine find?_finRange_of_least (by simp [slot, cadenced]) fun i less => ?_
  cases other : s.table[i] with
  | none => rfl
  | some p => exact least i p less other

theorem State.lowestCadenced_of_none {s : State} (none : ∀ (k : Slot) (r : Interferer), s.table[k] = some r → r.isCadenced = false) :
    s.lowestCadenced = .none := by
  refine List.find?_eq_none.mpr fun k _ => ?_
  cases slot : s.table[k] with
  | none => simp
  | some r => simp [none k r slot]

section

variable {s : State} (settled : s.resets = []) {k : Slot}

include settled

/-- A removal that is not the anchor's. -/
theorem State.claimRemoval_of_other (other : s.tracker.anchor ≠ some k) : s.claimRemoval k = { s with
    table := s.table.set k none, changed := s.changed ||| 1#32 <<< k.val, handed := s.handed ++ [.changeNotice k] } := by
  rw [State.claimRemoval, State.finishClaim, if_neg (by simpa using other), State.completeClaim_both (by exact settled)]
  rfl

/-- The removal of the anchor while another CADENCED record is left. -/
theorem State.claimRemoval_of_anchor (anchor : s.tracker.anchor = some k) {j : Slot} {q : Interferer}
    (slot : (s.table.set k none)[j] = some q) (cadenced : q.isCadenced = true)
    (least : ∀ (i : Slot) (p : Interferer), i < j → (s.table.set k none)[i] = some p → p.isCadenced = false) :
    s.claimRemoval k = { s with
      table := s.table.set k none
      tracker := { s.tracker with
        anchor := some j, outliers := 0, anchorMisses := 0
        anchorOffset := if s.tracker.predicting then q.phase.getD 0 else 0 }
      changed := s.changed ||| 1#32 <<< k.val, handed := s.handed ++ [.changeNotice k] } := by
  have lowest : (s.setSlot k none).lowestCadenced = some j := State.lowestCadenced_of_least slot cadenced least
  have phase : (s.setSlot k none).phaseAt j = q.phase := congrArg (·.bind (·.phase)) slot
  rw [State.claimRemoval, State.finishClaim, anchor, if_pos (by simp), State.anchorNotice, lowest]
  dsimp only
  rw [phase, Marks.join_none, State.completeClaim_both (by exact settled)]
  rfl

/-- The removal of the last CADENCED record (R27). -/
theorem State.claimRemoval_of_last (anchor : s.tracker.anchor = some k)
    (none : ∀ (i : Slot) (p : Interferer), (s.table.set k .none)[i] = some p → p.isCadenced = false) :
    s.claimRemoval k = { s with
      table := s.table.set k .none
      tracker := { Tracker.reset with period := s.tracker.period }
      changed := s.changed ||| 1#32 <<< k.val
      handed := s.handed ++ [.cadenceStateNotice, .attentionSetRequest .cadenceChange, .changeNotice k] } := by
  have lowest : (s.setSlot k .none).lowestCadenced = .none := State.lowestCadenced_of_none none
  have marks : (s.setSlot k .none).phaseMarks = .none := State.phaseMarks_of_none none
  have table : (s.setSlot k .none).removePhases = s.setSlot k .none :=
    congrArg (fun table => { s.setSlot k .none with table := table }) (State.removePhases_of_none none)
  rw [State.claimRemoval, State.finishClaim, anchor, if_pos (by simp), State.anchorNotice, lowest]
  dsimp only
  rw [State.enterFree, marks, table, Marks.join_none, State.notifyCadence_of_none (by exact settled), State.completeClaim_both (by exact settled)]
  simp [State.setTracker, State.setSlot]
  rfl

end

/-- Settles O48. -/
theorem retireRemovesTheRecord : Obligations.RetireRemovesTheRecord := by
  unfold Obligations.RetireRemovesTheRecord
  intro s n ready settled c
  have run : ∀ {x}, retireOwner n s = x → exec c s = .next (x.1.answering c x.2) := by
    rintro x rfl
    exact transact_of_ready _ s _ ready
  refine ⟨fun large => run (withRecord_of_large _ large), fun k number free => run (withRecord_of_free _ number free),
    fun k r number slot => ?_⟩
  have removed := run (withRecord_of_held _ number slot)
  refine ⟨fun other => removed.trans ?_, fun j q anchor held cadenced least => removed.trans ?_, fun anchor none => removed.trans ?_⟩
  · rw [State.claimRemoval_of_other settled other]
    rfl
  · rw [State.claimRemoval_of_anchor settled anchor held cadenced least]
    rfl
  · rw [State.claimRemoval_of_last settled anchor none]
    rfl

end Sys2Proof.Machine

/-! PLACE and the interferer AMEND, check by check (R47 to R49). -/

namespace Sys2Proof.Machine

open Sys2Proof

/-! ## PLACE (R47, R48) -/

/-- The span that a PLACE names. -/
def placedSpan (a : PlaceArgs) : Span := ⟨a.first.toNat, a.count.toNat⟩

/-- The checks of a PLACE on its span and level. -/
def PlacesSpan (a : PlaceArgs) : Prop :=
  (placedSpan a).isInterfererSpan = true ∧ a.band = (placedSpan a).band.byte ∧ a.level.toNat ≤ 63

/-- The arguments of a CADENCED record. -/
def PlacesOven (t : Tracker) (a : PlaceArgs) (on : Half) : Prop :=
  PlacesSpan a ∧ a.kind.toNat = 0 ∧ (placedSpan a).band = .l ∧ a.duty = none ∧
    a.onDuration = some on ∧ 500 ≤ on.toNat ∧ on.toNat + 500 ≤ t.period ∧ ∀ φ, a.phase = some φ → φ.toNat < t.period

/-- The arguments of a STEADY or SPORADIC record. -/
def PlacesOther (a : PlaceArgs) (duty : Byte) : Prop :=
  PlacesSpan a ∧ (a.kind.toNat = 1 ∨ a.kind.toNat = 2) ∧ a.duty = some duty ∧ duty.toNat ≤ 64 ∧ a.onDuration = none ∧ a.phase = none

/-- The record that a PLACE writes. -/
def placedRecord (a : PlaceArgs) (e : Emission) : Interferer where
  emission := e
  span := placedSpan a
  level := a.level.toNat
  confidence := 0
  misses := 0
  life := .pinned
  origin := .placed

theorem Band.ofByte?_iff (b : Byte) (y : Band) : Band.ofByte? b = some y ↔ y.byte = b := by
  cases y <;> revert b <;> decide +kernel

theorem phase_all_iff (t : Tracker) (phase : Option Half) :
    phase.all (phaseOk t.period) = true ↔ ∀ φ, phase = some φ → φ.toNat < t.period := by
  cases phase <;> simp [phaseOk]

theorem onDurationOk_iff (period : Nat) (x : Half) : onDurationOk period x = true ↔ 500 ≤ x.toNat ∧ x.toNat + 500 ≤ period := by
  simp [onDurationOk]

/-- A kind of CADENCED, and any other. -/
theorem kind_ne_zero_iff (kind : Byte) : (kind != 0) = true ↔ kind.toNat ≠ 0 := by
  rw [bne_iff_ne]
  exact not_congr ⟨fun same => by rw [same]; rfl, fun same => BitVec.eq_of_toNat_eq same⟩

/-- The checks on span, level and band, for a record of the emission (R47). -/
theorem placed?_eq_some_iff (t : Tracker) (a : PlaceArgs) (r : Interferer) : placed? t a = some r ↔
    ∃ e, placedEmission? t a = some e ∧ PlacesSpan a ∧ (a.kind.toNat = 0 → (placedSpan a).band = .l) ∧ r = placedRecord a e := by
  have low : ∀ b : Band, (levelOk a.level && (a.kind != 0 || b == .l)) = true ↔
      a.level.toNat ≤ 63 ∧ (a.kind.toNat = 0 → b = .l) := by
    intro b
    rw [Bool.and_eq_true, Bool.or_eq_true, kind_ne_zero_iff, beq_iff_eq, levelOk, decide_eq_true_eq, ← imp_iff_not_or]
  constructor
  · intro h
    unfold placed? at h
    split at h
    case h_1 b e band emission =>
      split at h
      case h_1 span found =>
        obtain ⟨rfl, valid, same⟩ := spanIn?_iff.mp found
        obtain ⟨checks, same_record⟩ := Option.ite_none_right_eq_some.mp h
        obtain ⟨level, cadenced⟩ := (low b).mp checks
        refine ⟨e, emission, ⟨valid, ?_, level⟩, fun zero => same.trans (cadenced zero), (Option.some.inj same_record).symm⟩
        rw [← (Band.ofByte?_iff _ _).mp band, ← same]
        rfl
      case h_2 => cases h
    case h_2 => cases h
  · rintro ⟨e, emission, ⟨valid, band, level⟩, cadenced, rfl⟩
    rw [placed?, (Band.ofByte?_iff _ _).mpr band.symm, emission]
    dsimp only
    rw [(spanIn?_iff (x := placedSpan a)).mpr ⟨rfl, valid, rfl⟩]
    exact if_pos ((low _).mpr ⟨level, cadenced⟩)

/-- The emission of a PLACE of kind CADENCED. -/
theorem placedEmission?_of_oven {t : Tracker} {a : PlaceArgs} {on : Half} (oven : PlacesOven t a on) :
    placedEmission? t a = some (.cadenced on.toNat (if t.predicting then a.phase.map (·.toNat) else none)) := by
  obtain ⟨-, kind, -, duty, given, low, high, phase⟩ := oven
  have zero : a.kind = 0 := BitVec.eq_of_toNat_eq kind
  rw [placedEmission?, if_pos zero, duty, given]
  exact if_pos (Bool.and_eq_true_iff.mpr ⟨(onDurationOk_iff _ _).mpr ⟨low, high⟩, (phase_all_iff t _).mpr phase⟩)

/-- The emission of a PLACE of another kind. -/
theorem placedEmission?_of_other (t : Tracker) {a : PlaceArgs} {duty : Byte} (other : PlacesOther a duty) :
    placedEmission? t a = some (if a.kind.toNat = 1 then .steady duty.toNat else .sporadic duty.toNat) := by
  obtain ⟨-, kind, given, low, on, phase⟩ := other
  have cadenced : a.kind ≠ 0 := by rintro zero; simp [zero] at kind
  rw [placedEmission?, if_neg cadenced, on, phase, given]
  refine (if_neg (by simp)).trans ((if_pos (by simpa [dutyOk] using low)).trans ?_)
  rcases kind with one | two
  · rw [if_pos (BitVec.eq_of_toNat_eq one), if_pos one]
  · have not : a.kind ≠ 1 := by rintro one; simp [one] at two
    rw [if_neg not, if_pos (BitVec.eq_of_toNat_eq two), if_neg (by omega)]

/-- A PLACE whose emission passes is of one kind or the other. -/
theorem places_of_emission {t : Tracker} {a : PlaceArgs} {e : Emission} (emission : placedEmission? t a = some e)
    (span : PlacesSpan a) (band : a.kind.toNat = 0 → (placedSpan a).band = .l) :
    (∃ on, PlacesOven t a on) ∨ ∃ duty, PlacesOther a duty := by
  unfold placedEmission? at emission
  split at emission
  case isTrue zero =>
    have kind : a.kind.toNat = 0 := by rw [zero]; rfl
    split at emission
    case h_1 on duty given =>
      obtain ⟨checks, -⟩ := Option.ite_none_right_eq_some.mp emission
      obtain ⟨bounds, phase⟩ := Bool.and_eq_true_iff.mp checks
      obtain ⟨low, high⟩ := (onDurationOk_iff _ _).mp bounds
      exact .inl ⟨on, span, kind, band kind, duty, given, low, high, (phase_all_iff t _).mp phase⟩
    case h_2 => cases emission
  case isFalse =>
    split at emission
    case isTrue => cases emission
    case isFalse absent =>
      obtain ⟨on, phase⟩ : a.onDuration = none ∧ a.phase = none := by simpa using absent
      split at emission
      case h_1 duty given =>
        obtain ⟨low, emission⟩ := Option.ite_none_right_eq_some.mp emission
        have kind : a.kind.toNat = 1 ∨ a.kind.toNat = 2 := by
          split at emission
          case isTrue one => exact .inl (by rw [one]; rfl)
          case isFalse =>
            obtain ⟨two, -⟩ := Option.ite_none_right_eq_some.mp emission
            exact .inr (by rw [two]; rfl)
        exact .inr ⟨duty, span, kind, given, by simpa [dutyOk] using low, on, phase⟩
      case h_2 => cases emission

theorem State.emptySlot_of_full {s : State} (full : ∀ k : Slot, s.table[k] ≠ none) : s.emptySlot = none :=
  List.find?_eq_none.mpr fun k _ => by simpa using full k

theorem State.emptySlot_of_least {s : State} {k : Slot} (free : s.table[k] = none) (least : ∀ j : Slot, j < k → s.table[j] ≠ none) :
    s.emptySlot = some k := by
  refine find?_finRange_of_least (by simp [free]) fun j less => ?_
  rw [Option.isNone_eq_false_iff, Option.isSome_iff_ne_none]
  exact least j less

/-- Settles O45: the checks of PLACE, then the record and its claim. -/
theorem placeCreatesAPinnedRecord : Obligations.PlaceCreatesAPinnedRecord := by
  unfold Obligations.PlaceCreatesAPinnedRecord
  intro s a ready settled c span spanAndLevel oven other
  have placedOven : ∀ on, oven on → placed? s.tracker a =
      some (placedRecord a (.cadenced on.toNat (if s.tracker.predicting then a.phase.map (·.toNat) else none))) :=
    fun on is => (placed?_eq_some_iff _ _ _).mpr ⟨_, placedEmission?_of_oven is, is.1, fun _ => is.2.2.1, rfl⟩
  have placedOther : ∀ duty, other duty → placed? s.tracker a =
      some (placedRecord a (if a.kind.toNat = 1 then .steady duty.toNat else .sporadic duty.toNat)) :=
    fun duty is => (placed?_eq_some_iff _ _ _).mpr ⟨_, placedEmission?_of_other _ is, is.1, fun zero => by have := is.2.1; omega, rfl⟩
  refine ⟨fun noOven noOther => ?_, fun full which => ?_, fun k free least => ?_⟩
  · have bad : placed? s.tracker a = none := by
      refine Option.eq_none_iff_forall_ne_some.mpr fun r passes => ?_
      obtain ⟨e, emission, spans, band, -⟩ := (placed?_eq_some_iff _ _ _).mp passes
      exact (places_of_emission emission spans band).elim (fun ⟨on, is⟩ => noOven on is) fun ⟨duty, is⟩ => noOther duty is
    exact transact_refuse c s _ _ ready (by rw [placeOwner, bad])
  · obtain ⟨r, passes⟩ : ∃ r, placed? s.tracker a = some r :=
      which.elim (fun ⟨on, is⟩ => ⟨_, placedOven on is⟩) fun ⟨duty, is⟩ => ⟨_, placedOther duty is⟩
    refine transact_refuse c s _ _ ready ?_
    rw [placeOwner, passes]
    dsimp only
    rw [State.emptySlot_of_full full]
  · intro placed
    have places : ∀ {e dropped}, placed? s.tracker a = some (placedRecord a e) → phaseDropped s.tracker a.phase.isSome = dropped →
        placed e dropped := by
      rintro e dropped passes rfl
      refine (transact_of_ready c s _ ready).trans ?_
      rw [placeOwner, passes]
      dsimp only
      rw [State.emptySlot_of_least free least]
      dsimp only
      rw [State.completeClaim_both (by exact settled)]
      rfl
    refine ⟨fun on is => places (placedOven on is) rfl, fun duty is => places (placedOther duty is) ?_⟩
    rw [is.2.2.2.2.2]
    rfl

end Sys2Proof.Machine

/-! The interferer AMEND, check by check (R48, R49, R55). -/

namespace Sys2Proof.Machine

open Sys2Proof

/-! ## The claim of a change to a PINNED record (Table 3-4) -/

/-- A change that enters the slot in the changed-interferer set. -/
def entersSet (old new : Interferer) : Bool :=
  decide (new.span ≠ old.span) || decide (new.emission.withoutPhase ≠ old.emission.withoutPhase) ||
    decide (new.phase.isSome ≠ old.phase.isSome)

theorem entersSet_iff (old new : Interferer) : entersSet old new = true ↔
    old.span ≠ new.span ∨ old.emission.withoutPhase ≠ new.emission.withoutPhase ∨ old.phase.isSome ≠ new.phase.isSome := by
  simp only [entersSet, Bool.or_eq_true, decide_eq_true_eq, or_assoc, ne_comm]

/-- The marks of a change that keeps a record PINNED. -/
theorem changeMarks_of_pinned (k : Slot) {old new : Interferer} (held : old.life = .pinned) (kept : new.life = .pinned) :
    changeMarks k old new =
      if entersSet old new then .both k else if new.phase ≠ old.phase then ⟨slotBit k, 0⟩ else .none := by
  have counting : new.counting = true := by rw [Interferer.counting, kept]
  rw [changeMarks, if_neg (by simp [held, kept]), counting, if_neg (by simp)]
  simp only [entersSet_iff, ne_comm (a := old.phase)]

/-- The claim of a change that keeps a record PINNED. -/
theorem State.claimChange_of_pinned {s : State} (settled : s.resets = []) (k : Slot) {old new : Interferer} (held : old.life = .pinned)
    (kept : new.life = .pinned) : s.claimChange k old new = { s with
      table := s.table.set k (some new)
      changed := if entersSet old new then s.changed ||| 1#32 <<< k.val else s.changed
      handed := if entersSet old new || decide (new.phase ≠ old.phase) then s.handed ++ [.changeNotice k] else s.handed } := by
  rw [State.claimChange, changeMarks_of_pinned k held kept]
  by_cases enters : entersSet old new = true
  · rw [if_pos enters, State.completeClaim_both (by exact settled), enters]
    rfl
  · rw [if_neg enters, Bool.not_eq_true _ |>.mp enters]
    by_cases phase : new.phase = old.phase
    · rw [if_neg (not_not.mpr phase), State.completeClaim_nothing (by exact settled), phase]
      simp [State.setSlot]
    · rw [if_pos phase, State.completeClaim_notice (by exact settled)]
      simp [State.setSlot, phase]

/-! ## The checks of an AMEND (R49) -/

/-- The span after an AMEND. -/
def amendedSpan (old : Span) (a : InterfererAmendArgs) : Span := (a.span.map fun x => ⟨x.1.toNat, x.2.toNat⟩).getD old

/-- The checks of an AMEND on its span and level. -/
def AmendsSpan (old : Span) (a : InterfererAmendArgs) : Prop :=
  (a.span ≠ none → (amendedSpan old a).isInterfererSpan = true ∧ (amendedSpan old a).band = old.band) ∧
    ∀ x, a.level = some x → x.toNat ≤ 63

/-- The record after an AMEND. -/
def amendedRecord (r : Interferer) (a : InterfererAmendArgs) (e : Emission) : Interferer :=
  { r with span := amendedSpan r.span a, level := (a.level.map (·.toNat)).getD r.level, emission := e }

/-- The emission after an AMEND, if its fields are valid for the record's. -/
def amendedEmission? (t : Tracker) (r : Interferer) (a : InterfererAmendArgs) : Option Emission :=
  (amendKind? r.emission a.kind a.duty).bind (amendBurst? t · a.onDuration a.phase)

theorem amendSpan?_iff (old new : Span) (a : InterfererAmendArgs) : amendSpan? old a.span = some new ↔
    new = amendedSpan old a ∧
      (a.span ≠ none → (amendedSpan old a).isInterfererSpan = true ∧ (amendedSpan old a).band = old.band) := by
  unfold amendedSpan
  cases a.span with
  | none => exact ⟨fun same => ⟨(Option.some.inj same).symm, fun given => absurd rfl given⟩, fun ⟨same, _⟩ => congrArg some same.symm⟩
  | some x =>
    rw [amendSpan?, spanIn?_iff]
    exact and_congr_right fun same => by subst same; simp

theorem level_all_iff (level : Option Byte) : level.all levelOk = true ↔ ∀ x, level = some x → x.toNat ≤ 63 := by
  cases level <;> simp [levelOk]

theorem amended?_eq_some_iff (t : Tracker) (r q : Interferer) (a : InterfererAmendArgs) : amended? t r a = some q ↔
    ∃ e, amendedEmission? t r a = some e ∧ AmendsSpan r.span a ∧ q = amendedRecord r a e := by
  constructor
  · intro h
    unfold amended? at h
    split at h
    case h_1 span e spans emission =>
      obtain ⟨rfl, valid⟩ := (amendSpan?_iff _ _ _).mp spans
      obtain ⟨level, same⟩ := Option.ite_none_right_eq_some.mp h
      exact ⟨e, emission, ⟨valid, (level_all_iff _).mp level⟩, (Option.some.inj same).symm⟩
    case h_2 => cases h
  · rintro ⟨e, emission, ⟨valid, level⟩, rfl⟩
    rw [amended?, (amendSpan?_iff _ _ _).mpr ⟨rfl, valid⟩, show (amendKind? _ _ _).bind _ = _ from emission]
    exact if_pos ((level_all_iff _).mpr level)

/-! ## The emission after an AMEND -/

theorem onDuration_all_iff (period : Nat) (on : Option Half) :
    on.all (onDurationOk period) = true ↔ ∀ x, on = some x → 500 ≤ x.toNat ∧ x.toNat + 500 ≤ period := by
  cases on <;> simp [onDurationOk]

/-- The phase after an AMEND (R48). -/
def amendedPhase (t : Tracker) (old : Option Nat) (g : Given Half) : Option Nat :=
  match g with
  | .omitted => old
  | .value x => if t.predicting then some x.toNat else none
  | .remove => none

theorem amendPhase?_iff (t : Tracker) (old new : Option Nat) (g : Given Half) : amendPhase? t old g = some new ↔
    (∀ x, g = .value x → x.toNat < t.period) ∧ new = amendedPhase t old g := by
  cases g with
  | omitted => exact ⟨fun same => ⟨nofun, (Option.some.inj same).symm⟩, fun ⟨_, same⟩ => congrArg some same.symm⟩
  | value x =>
    rw [amendPhase?, Option.ite_none_right_eq_some, phaseOk, decide_eq_true_eq]
    exact ⟨fun ⟨small, same⟩ => ⟨fun y given => by cases given; exact small, (Option.some.inj same).symm⟩,
      fun ⟨small, same⟩ => ⟨small x rfl, congrArg some same.symm⟩⟩
  | remove => exact ⟨fun same => ⟨nofun, (Option.some.inj same).symm⟩, fun ⟨_, same⟩ => congrArg some same.symm⟩

/-- A CADENCED record takes an on-duration and a phase, and neither kind nor duty. -/
theorem amendedEmission?_cadenced {t : Tracker} {r : Interferer} {a : InterfererAmendArgs} {o : Nat} {φ : Option Nat}
    (burst : r.emission = .cadenced o φ) (e : Emission) : amendedEmission? t r a = some e ↔
      (a.kind = none ∧ a.duty = none ∧ (∀ x, a.onDuration = some x → 500 ≤ x.toNat ∧ x.toNat + 500 ≤ t.period) ∧
        ∀ x, a.phase = .value x → x.toNat < t.period) ∧
      e = .cadenced ((a.onDuration.map (·.toNat)).getD o) (amendedPhase t φ a.phase) := by
  rw [amendedEmission?, burst, amendKind?]
  have bursts : amendBurst? t (.cadenced o φ) a.onDuration a.phase = some e ↔
      ((∀ x, a.onDuration = some x → 500 ≤ x.toNat ∧ x.toNat + 500 ≤ t.period) ∧ ∀ x, a.phase = .value x → x.toNat < t.period) ∧
        e = .cadenced ((a.onDuration.map (·.toNat)).getD o) (amendedPhase t φ a.phase) := by
    rw [amendBurst?, Option.ite_none_right_eq_some, onDuration_all_iff, Option.map_eq_some_iff]
    simp only [amendPhase?_iff]
    constructor
    · rintro ⟨on, p, ⟨phase, rfl⟩, rfl⟩
      exact ⟨⟨on, phase⟩, rfl⟩
    · rintro ⟨⟨on, phase⟩, rfl⟩
      exact ⟨on, _, ⟨phase, rfl⟩, rfl⟩
  by_cases absent : a.kind = none ∧ a.duty = none
  · rw [if_neg (by simp [absent.1, absent.2]), Option.bind_some, bursts]
    simp [absent.1, absent.2]
  · rw [if_pos (by simpa [Option.isSome_iff_ne_none, ← not_and_or] using absent)]
    simp only [Option.bind_none, reduceCtorEq, false_iff]
    exact fun ok => absent ⟨ok.1.1, ok.1.2.1⟩

/-- A record of another kind takes a kind and a duty, and neither on-duration nor phase. -/
def AmendsKind (a : InterfererAmendArgs) : Prop :=
  (∀ x, a.kind = some x → x.toNat = 1 ∨ x.toNat = 2) ∧ (∀ x, a.duty = some x → x.toNat ≤ 64) ∧
    a.onDuration = none ∧ a.phase = .omitted

theorem duty_all_iff (duty : Option Byte) : duty.all dutyOk = true ↔ ∀ x, duty = some x → x.toNat ≤ 64 := by
  cases duty <;> simp [dutyOk]

/-- The burst fields of a record that is not CADENCED. -/
theorem amendBurst?_of_other {t : Tracker} {e e' : Emission} (other : e.onDuration = none) (a : InterfererAmendArgs) :
    amendBurst? t e a.onDuration a.phase = some e' ↔ (a.onDuration = none ∧ a.phase = .omitted) ∧ e' = e := by
  cases e with
  | cadenced o φ => cases other
  | steady d => cases a.onDuration <;> cases a.phase <;> simp [amendBurst?, eq_comm]
  | sporadic d => cases a.onDuration <;> cases a.phase <;> simp [amendBurst?, eq_comm]

section

variable {e : Emission} {d : Nat} (other : e = .steady d ∨ e = .sporadic d)

include other

/-- The given kind of a record that is not CADENCED, with a valid duty. -/
theorem amendKind?_of_kind {duty : Option Byte} (low : duty.all dutyOk = true) (k : Byte) : amendKind? e (some k) duty =
    if k = 1 then some (.steady ((duty.map (·.toNat)).getD d))
    else if k = 2 then some (.sporadic ((duty.map (·.toNat)).getD d)) else none := by
  rcases other with rfl | rfl <;> exact if_pos low

theorem amendKind?_of_duty {kind duty : Option Byte} (high : ¬duty.all dutyOk = true) : amendKind? e kind duty = none := by
  rcases other with rfl | rfl <;> exact if_neg high

/-- The fields that an AMEND of the kind accepts. -/
theorem amendKind?_valid {kind duty : Option Byte} {e' : Emission} (amended : amendKind? e kind duty = some e') :
    ((∀ x, kind = some x → x.toNat = 1 ∨ x.toNat = 2) ∧ ∀ x, duty = some x → x.toNat ≤ 64) ∧ e'.onDuration = none := by
  by_cases low : duty.all dutyOk = true
  · cases kind with
    | none =>
      refine ⟨⟨nofun, (duty_all_iff _).mp low⟩, ?_⟩
      rcases other with rfl | rfl <;> cases (if_pos low).symm.trans amended <;> rfl
    | some k =>
      rw [amendKind?_of_kind other low] at amended
      split at amended
      case isTrue one =>
        cases amended
        exact ⟨⟨fun x given => by cases given; exact .inl (by rw [one]; rfl), (duty_all_iff _).mp low⟩, rfl⟩
      case isFalse =>
        obtain ⟨two, same⟩ := Option.ite_none_right_eq_some.mp amended
        cases same
        exact ⟨⟨fun x given => by cases given; exact .inr (by rw [two]; rfl), (duty_all_iff _).mp low⟩, rfl⟩
  · rw [amendKind?_of_duty other low] at amended
    cases amended

theorem amendKind?_steady {kind duty : Option Byte} (low : ∀ x, duty = some x → x.toNat ≤ 64)
    (named : kind = some 1 ∨ kind = none ∧ e = .steady d) : amendKind? e kind duty = some (.steady ((duty.map (·.toNat)).getD d)) := by
  rcases named with rfl | ⟨rfl, rfl⟩
  · rw [amendKind?_of_kind other ((duty_all_iff _).mpr low), if_pos rfl]
  · exact if_pos ((duty_all_iff _).mpr low)

theorem amendKind?_sporadic {kind duty : Option Byte} (low : ∀ x, duty = some x → x.toNat ≤ 64)
    (named : kind = some 2 ∨ kind = none ∧ e = .sporadic d) : amendKind? e kind duty = some (.sporadic ((duty.map (·.toNat)).getD d)) := by
  rcases named with rfl | ⟨rfl, rfl⟩
  · rw [amendKind?_of_kind other ((duty_all_iff _).mpr low), if_neg (by decide), if_pos rfl]
  · exact if_pos ((duty_all_iff _).mpr low)

end

/-- A valid AMEND of a record that is not CADENCED. -/
theorem amendedEmission?_of_kind {t : Tracker} {r : Interferer} {a : InterfererAmendArgs} {e : Emission}
    (kind : amendKind? r.emission a.kind a.duty = some e) (other : e.onDuration = none) (absent : a.onDuration = none ∧ a.phase = .omitted) :
    amendedEmission? t r a = some e := by
  rw [amendedEmission?, kind]
  exact (amendBurst?_of_other other a).mpr ⟨absent, rfl⟩

/-- What a valid AMEND of a record that is not CADENCED gives. -/
theorem amendsKind_of_amended {t : Tracker} {r : Interferer} {a : InterfererAmendArgs} {d : Nat} {e : Emission}
    (other : r.emission = .steady d ∨ r.emission = .sporadic d) (amended : amendedEmission? t r a = some e) : AmendsKind a := by
  obtain ⟨e', kind, burst⟩ := Option.bind_eq_some_iff.mp amended
  obtain ⟨⟨named, low⟩, unburst⟩ := amendKind?_valid other kind
  obtain ⟨absent, -⟩ := (amendBurst?_of_other unburst a).mp burst
  exact ⟨named, low, absent.1, absent.2⟩

/-- Settles O47: the checks of AMEND in their order, then the record and its claim. -/
theorem amendWritesAPinnedRecord : Obligations.AmendWritesAPinnedRecord := by
  unfold Obligations.AmendWritesAPinnedRecord
  intro s a ready settled c refusedWith
  have refuses : ∀ x, interfererAmendOwner a s = refuse s x → refusedWith x := fun x refused => transact_refuse c s _ x ready refused
  refine ⟨fun large => refuses _ (withRecord_of_large _ large), fun k number free => refuses _ (withRecord_of_free _ number free),
    fun k r slot number => ?_⟩
  intro span spanAndLevel amended
  have owner := withRecord_of_held (fun k r => if r.life = .pinned then
      match amended? s.tracker r a with
      | none => refuse s .badArgument
      | some r' => (s.claimChange k r r', ⟨.done, [mark (phaseDropped s.tracker a.phase.isValue)]⟩)
    else refuse s .refused) number slot
  refine ⟨fun other => refuses _ (owner.trans (if_neg other)), fun pinned => ?_⟩
  have checked := owner.trans (if_pos pinned)
  have bad : (∀ e, amendedEmission? s.tracker r a = some e → ¬spanAndLevel) → refusedWith .badArgument := by
    intro invalid
    have none : amended? s.tracker r a = none := Option.eq_none_iff_forall_ne_some.mpr fun q passes => by
      obtain ⟨e, emission, spans, -⟩ := (amended?_eq_some_iff _ _ _ _).mp passes
      exact invalid e emission spans
    rw [none] at checked
    exact refuses _ checked
  have good : ∀ {e}, amendedEmission? s.tracker r a = some e → spanAndLevel → amended e := by
    intro e emission spans
    have passes := (amended?_eq_some_iff _ _ _ _).mpr ⟨e, emission, spans, rfl⟩
    rw [passes] at checked
    refine (transact_of_ready c s (interfererAmendOwner a) ready).trans ?_
    rw [show interfererAmendOwner a s = _ from checked]
    dsimp only
    rw [State.claimChange_of_pinned settled k pinned (by exact pinned)]
    rfl
  refine ⟨fun o φ burst => ⟨fun invalid => bad fun e emission spans => invalid ⟨spans, ?_⟩, fun valid => good ?_ valid.1⟩, fun d other =>
    ⟨fun invalid => bad fun e emission spans => invalid ⟨spans, amendsKind_of_amended other emission⟩, fun valid named => good ?_ valid.1,
      fun valid named => good ?_ valid.1⟩⟩
  · exact ((amendedEmission?_cadenced burst e).mp emission).1
  · exact (amendedEmission?_cadenced burst _).mpr ⟨valid.2, rfl⟩
  · exact amendedEmission?_of_kind (amendKind?_steady other valid.2.2.1 named) rfl valid.2.2.2
  · exact amendedEmission?_of_kind (amendKind?_sporadic other valid.2.2.1 named) rfl valid.2.2.2

end Sys2Proof.Machine

/-! Anchor misses and the holdover timer on a settled part, with the removal of phases (R23, R25, R27). -/

namespace Sys2Proof.Machine

open Sys2Proof

theorem exec_anchorMissReport {s : State} (running : s.resetN = true) (k : Slot) :
    exec (.anchorMissReport k) s = .next ((s.taking (.anchorMissReport k)).takeMiss k) :=
  event_of_running s (fun s => (s.taking (.anchorMissReport k)).takeMiss k) running

/-! ## Anchor misses (R23) -/

section

variable {s : State} {k : Slot}

theorem State.takeMiss_of_other (other : s.tracker.state ≠ .locked ∨ s.tracker.anchor ≠ some k) : s.takeMiss k = s := by
  unfold State.takeMiss
  split
  case h_4 locked => exact if_neg (other.resolve_left (not_not.mpr locked))
  all_goals rfl

theorem State.takeMiss_of_locked (locked : s.tracker.state = .locked) (anchor : s.tracker.anchor = some k) : s.takeMiss k =
    if s.tracker.anchorMisses + 1 < 8 then s.setTracker { s.tracker with anchorMisses := s.tracker.anchorMisses + 1 }
    else (s.setTracker { s.tracker with state := .holdover, anchorMisses := 0 }).notifyCadence := by
  rw [State.takeMiss, locked]
  exact if_pos anchor

end

/-- Settles O53: a miss counts only in LOCKED and for the anchor. -/
theorem eighthMissEntersHoldover : Obligations.EighthMissEntersHoldover := by
  unfold Obligations.EighthMissEntersHoldover
  intro s k running settled
  rw [exec_anchorMissReport running]
  refine ⟨fun other => congrArg _ (State.takeMiss_of_other (by exact other)), fun locked anchor => ?_⟩
  rw [State.takeMiss_of_locked (by exact locked) (by exact anchor)]
  refine ⟨fun few => congrArg _ (if_pos (by exact Nat.succ_lt_succ few)), fun seven => ?_⟩
  rw [if_neg (by exact fun less => by have : s.tracker.anchorMisses + 1 < 8 := less; omega),
    State.notifyCadence_of_none (by exact settled)]
  rfl

/-! ## The removal of phases (R27, R45) -/

/-- A counting record that has a phase. -/
def State.phased (s : State) (k : Slot) : Bool := (s.table[k]).any fun r => r.counting && r.phase.isSome

theorem slotBit_getLsbD (k j : Slot) : (slotBit k).getLsbD j.val = decide (j = k) := by
  revert k j
  decide +kernel

/-- The marks of a removal of all phases, slot by slot. -/
def State.addPhaseMarks (s : State) (m : Marks) (k : Slot) : Marks :=
  match s.table[k] with
  | some r => if r.counting && r.phase.isSome then m.join (.both k) else m
  | none => m

theorem State.phaseMarks_eq (s : State) : s.phaseMarks = (List.finRange 32).foldl s.addPhaseMarks .none := rfl

theorem State.addPhaseMarks_eq (s : State) (m : Marks) (k : Slot) :
    s.addPhaseMarks m k = if s.phased k then m.join (.both k) else m := by
  unfold State.addPhaseMarks State.phased
  cases s.table[k] with
  | none => rfl
  | some r => rfl

/-- The marks of a list of slots are those of the slots that hold a counting record with a phase. -/
theorem State.foldl_addPhaseMarks (s : State) (ks : List Slot) (m : Marks) (j : Slot) :
    (ks.foldl s.addPhaseMarks m).noticed.getLsbD j.val = (m.noticed.getLsbD j.val || decide (j ∈ ks) && s.phased j) ∧
      (ks.foldl s.addPhaseMarks m).entered.getLsbD j.val = (m.entered.getLsbD j.val || decide (j ∈ ks) && s.phased j) := by
  induction ks generalizing m with
  | nil => simp
  | cons k ks ih =>
    rw [List.foldl_cons, s.addPhaseMarks_eq]
    obtain ⟨noticed, entered⟩ := ih (if s.phased k then m.join (.both k) else m)
    rw [noticed, entered]
    cases phased : s.phased k with
    | false =>
      by_cases here : j = k
      · simp [here, phased]
      · simp [here]
    | true =>
      simp only [if_true, Marks.join, Marks.both, BitVec.getLsbD_or, slotBit_getLsbD, List.mem_cons]
      by_cases here : j = k
      · simp [here, phased]
      · simp [here]

theorem State.phaseMarks_noticed (s : State) (j : Slot) : s.phaseMarks.noticed.getLsbD j.val = s.phased j := by
  rw [s.phaseMarks_eq, (s.foldl_addPhaseMarks _ _ j).1]
  simp [Marks.none]

theorem State.phaseMarks_entered (s : State) (j : Slot) : s.phaseMarks.entered.getLsbD j.val = s.phased j := by
  rw [s.phaseMarks_eq, (s.foldl_addPhaseMarks _ _ j).2]
  simp [Marks.none]

theorem State.notifyCadence_completeClaim {s : State} (settled : s.resets = []) (marks : Marks) :
    s.notifyCadence.completeClaim marks = { s with
      changed := s.changed ||| marks.entered
      handed := s.handed ++ [.cadenceStateNotice, .attentionSetRequest .cadenceChange] ++
        ((List.finRange 32).filter fun k => marks.noticed.getLsbD k.val).map .changeNotice } := by
  rw [State.notifyCadence_of_none settled, State.completeClaim_of_none _ (by exact settled)]

/-- A change of cadence state with the removal of phases as one claim. -/
theorem State.unphase_of_none {s : State} (settled : s.resets = []) (t : Tracker) :
    ((s.removePhases.setTracker t).notifyCadence).completeClaim s.phaseMarks = { s with
      tracker := t, table := s.removePhases.table, changed := s.changed ||| s.phaseMarks.entered
      handed := s.handed ++ [.cadenceStateNotice, .attentionSetRequest .cadenceChange] ++
        ((List.finRange 32).filter s.phased).map .changeNotice } := by
  have settledToo : (s.removePhases.setTracker t).resets = [] := by
    simpa only [State.setTracker, State.removePhases] using settled
  rw [State.notifyCadence_completeClaim settledToo]
  simp only [s.phaseMarks_noticed, State.setTracker, State.removePhases]

theorem State.removePhases_slot (s : State) (k : Slot) :
    s.removePhases.table[k] = (s.table[k]).map fun r => { r with emission := r.emission.withoutPhase } := s.removePhases_table k

theorem State.changed_phased (s : State) (k : Slot) :
    (s.changed ||| s.phaseMarks.entered).getLsbD k.val = (s.changed.getLsbD k.val || s.phased k) := by
  rw [BitVec.getLsbD_or, s.phaseMarks_entered]

/-! ## The holdover timer (R25) -/

/-- Settles O54: the entry to FREE is one claim with the removal of phases. -/
theorem holdoverExpiryFreesTheTracker : Obligations.HoldoverExpiryFreesTheTracker := by
  unfold Obligations.HoldoverExpiryFreesTheTracker
  intro s d running settled predicting deadline
  have run : exec .holdoverExpiry s = .next s.expireHoldover := event_of_running s State.expireHoldover running
  rw [run, State.expireHoldover, (Tracker.predicting_iff _).mpr predicting, deadline]
  refine ⟨fun early => congrArg _ (if_neg (by simp [reached, early])), fun due => ?_⟩
  rw [if_pos (by exact due)]
  refine ⟨_, congrArg _ (State.unphase_of_none settled _), rfl, s.removePhases_slot, s.changed_phased, rfl⟩

end Sys2Proof.Machine

/-! Rises in LOCKED and HOLDOVER, written out on a settled part (R21, R22, R24). -/

namespace Sys2Proof.Machine

open Sys2Proof

theorem exec_riseReport {s : State} (running : s.resetN = true) (k : Slot) (rise : AirTime) :
    exec (.riseReport k rise) s = .next ((s.taking (.riseReport k rise)).takeRise k rise) :=
  event_of_running s (fun s => (s.taking (.riseReport k rise)).takeRise k rise) running

theorem within_iff {tol : Nat} {x : Int} : within tol x = true ↔ -(tol : Int) ≤ x ∧ x ≤ tol := by
  simp [within]

section

variable {s : State} {k : Slot} {reference rise : AirTime}

theorem State.takeRise_of_other (state : s.tracker.state ≠ .free) (other : s.tracker.anchor ≠ some k) : s.takeRise k rise = s := by
  unfold State.takeRise
  split
  · next free => exact absurd free state
  all_goals
    split
    · exact if_neg other
    · rfl

theorem State.takeRise_of_acquiring (acquiring : s.tracker.state = .acquiring) (anchor : s.tracker.anchor = some k)
    (present : s.tracker.reference = some reference) : s.takeRise k rise = s.riseAcquiring reference rise := by
  rw [State.takeRise, acquiring, present]
  exact if_pos anchor

theorem State.takeRise_of_locked (locked : s.tracker.state = .locked) (anchor : s.tracker.anchor = some k)
    (present : s.tracker.reference = some reference) : s.takeRise k rise = s.riseLocked reference rise := by
  rw [State.takeRise, locked, present]
  exact if_pos anchor

theorem State.takeRise_of_holdover (holdover : s.tracker.state = .holdover) (anchor : s.tracker.anchor = some k)
    (present : s.tracker.reference = some reference) : s.takeRise k rise = s.riseHoldover reference rise := by
  rw [State.takeRise, holdover, present]
  exact if_pos anchor

end

/-- Settles O52: the branches of R21, R22 and R24; the fourth outlier is one claim with the removal of phases. -/
theorem consistentRiseRefinesTheLock : Obligations.ConsistentRiseRefinesTheLock := by
  unfold Obligations.ConsistentRiseRefinesTheLock
  refine ⟨fun s k rise running state other => ?_, fun s k reference rise running settled anchor present => ?_⟩
  · have notFree : s.tracker.state ≠ .free := by rcases state with state | state <;> simp [state]
    rw [exec_riseReport running, State.takeRise_of_other (by exact notFree) (by exact other)]
    rfl
  · intro e consistent rest notified phased refined
    have within_e : within s.params.edgeTol (s.tracker.riseError reference rise) = true ↔ consistent := within_iff
    rw [exec_riseReport running]
    refine ⟨fun locked near => ?_, fun locked far few => ?_, fun locked far four => ?_, fun holdover near => ?_,
      fun holdover far => ?_⟩
    · rw [State.takeRise_of_locked (by exact locked) (by exact anchor) (by exact present)]
      exact congrArg _ (if_pos (by exact within_e.mpr near))
    · rw [State.takeRise_of_locked (by exact locked) (by exact anchor) (by exact present)]
      exact congrArg _ ((if_neg (by exact fun h => far (within_e.mp h))).trans (if_pos (by exact few)))
    · rw [State.takeRise_of_locked (by exact locked) (by exact anchor) (by exact present)]
      have lost : (s.taking (.riseReport k rise)).riseLocked reference rise =
          (s.taking (.riseReport k rise)).loseLock rise :=
        (if_neg (by exact fun h => far (within_e.mp h))).trans (if_neg (by exact fun h => absurd h (Nat.not_lt.mpr four)))
      rw [lost]
      refine ⟨_, congrArg _ (State.unphase_of_none (by exact settled) _), rfl, s.removePhases_slot, s.changed_phased⟩
    · rw [State.takeRise_of_holdover (by exact holdover) (by exact anchor) (by exact present)]
      have regained : (s.taking (.riseReport k rise)).riseHoldover reference rise =
          ((s.taking (.riseReport k rise)).refineLock rise e).notifyCadence := if_pos (by exact within_e.mpr near)
      rw [regained, State.notifyCadence_of_none (by exact settled)]
      rfl
    · rw [State.takeRise_of_holdover (by exact holdover) (by exact anchor) (by exact present)]
      exact congrArg _ (if_neg (by exact fun h => far (within_e.mp h)))

end Sys2Proof.Machine

/-! Rises in FREE and ACQUIRING, written out on a settled part (R16 to R20). -/

namespace Sys2Proof.Machine

open Sys2Proof

/-! ## The nearest multiple (R18) -/

/-- The step of a search for the smallest key, the earliest of equals kept. -/
def closer (f : Nat → Nat) (best k : Nat) : Nat := if f k < f best then k else best

/-- On an ascending list the search gives the element that every other one exceeds, or equals and follows. -/
theorem foldl_closer (f : Nat → Nat) {k : Nat} (ks : List Nat) (b : Nat) (ascending : (b :: ks).Pairwise (· < ·))
    (mem : k ∈ b :: ks) (least : ∀ j ∈ b :: ks, f k < f j ∨ (f k = f j ∧ k ≤ j)) : ks.foldl (closer f) b = k := by
  induction ks generalizing b with
  | nil => exact (List.mem_singleton.mp mem).symm
  | cons x ks ih =>
    have keep : (b :: ks).Pairwise (· < ·) := ascending.sublist (by simp)
    have drop : (x :: ks).Pairwise (· < ·) := ascending.of_cons
    have b_lt_x : b < x := List.rel_of_pairwise_cons ascending (by simp)
    have least_b := least b (by simp)
    have least_x := least x (by simp)
    rw [List.foldl_cons, closer]
    split
    case isTrue less =>
      refine ih x drop ?_ fun j hj => least j (List.mem_cons_of_mem _ hj)
      rcases List.mem_cons.mp mem with rfl | mem
      · omega
      · exact mem
    case isFalse notLess =>
      refine ih b keep ?_ fun j hj => least j (by rcases List.mem_cons.mp hj with h | h <;> simp [h])
      rcases List.mem_cons.mp mem with rfl | mem
      · simp
      · rcases List.mem_cons.mp mem with rfl | mem
        · omega
        · simp [mem]

theorem nearestMultiple_eq {c k : Nat} {d : Int} (one : 1 ≤ k) (eight : k ≤ 8)
    (least : ∀ j : Nat, 1 ≤ j → j ≤ 8 → (d - k * c).natAbs < (d - j * c).natAbs ∨
      ((d - k * c).natAbs = (d - j * c).natAbs ∧ k ≤ j)) : nearestMultiple c d = k := by
  have search : nearestMultiple c d = [2, 3, 4, 5, 6, 7, 8].foldl (closer fun j => (d - ((j * c : Nat) : Int)).natAbs) 1 := rfl
  rw [search]
  refine foldl_closer _ _ _ (by decide) ?_ fun j hj => ?_
  · have : k = 1 ∨ k = 2 ∨ k = 3 ∨ k = 4 ∨ k = 5 ∨ k = 6 ∨ k = 7 ∨ k = 8 := by omega
    simpa using this
  · have bounds : 1 ≤ j ∧ j ≤ 8 := by
      simp only [List.mem_cons, List.not_mem_nil, or_false] at hj
      omega
    simpa only [Nat.cast_mul] using least j bounds.1 bounds.2

/-! ## The allowed range (R14, R18) -/

theorem Mains.allows_iff {m : Mains} {x : Int} : m.allows x = true ↔ (m.range.1 : Int) ≤ x ∧ x ≤ m.range.2 := by
  simp [Mains.allows]

section

variable {s : State} {k : Slot} {reference rise : AirTime}

theorem State.takeRise_of_free (free : s.tracker.state = .free) : s.takeRise k rise =
    if (s.table[k]).any (·.isCadenced) then s.startAcquisition k rise else s := by
  rw [State.takeRise, free]

theorem State.riseAcquiring_of_none (absent : s.tracker.candidate = none) :
    s.riseAcquiring reference rise = s.riseWithoutCandidate reference rise := by
  rw [State.riseAcquiring, absent]

theorem State.riseAcquiring_of_some {c : Nat} (present : s.tracker.candidate = some c) : s.riseAcquiring reference rise =
    if s.params.mainsNominal.allows c then s.riseWithCandidate reference c rise
    else (s.setTracker { s.tracker with candidate := none, consistent := 0, outliers := 0 }).riseWithoutCandidate
      reference rise := by
  rw [State.riseAcquiring, present]

/-- A rise judged against an allowed candidate, away from the reference. -/
theorem State.riseWithCandidate_of_far {c m : Nat} (far : ¬within s.params.edgeTol (signedDiff reference rise) = true)
    (nearest : nearestMultiple c (signedDiff reference rise) = m) : s.riseWithCandidate reference c rise =
    if within s.params.edgeTol (signedDiff reference rise - ((m * c : Nat) : Int)) then
      (s.setTracker { s.tracker with
        candidate := some (refinedCandidate s.params.mainsNominal c s.tracker.consistent m (signedDiff reference rise))
        consistent := s.tracker.consistent + 1, outliers := 0, reference := some rise }).testLock
          (refinedCandidate s.params.mainsNominal c s.tracker.consistent m (signedDiff reference rise)) rise
    else if s.tracker.outliers + 1 < 3 then s.setTracker { s.tracker with outliers := s.tracker.outliers + 1 }
    else s.setTracker { s.tracker with candidate := none, consistent := 0, outliers := 0, reference := some rise } := by
  subst nearest
  exact if_neg far

end

/-- Settles O51: the branches of R16 to R20, with the nearest multiple by its search. -/
theorem riseStartsAcquisitionAndCandidate : Obligations.RiseStartsAcquisitionAndCandidate := by
  unfold Obligations.RiseStartsAcquisitionAndCandidate
  refine ⟨fun s k rise running settled free => ?_, fun s slot reference rise running acquiring present => ?_⟩
  · rw [exec_riseReport running, State.takeRise_of_free (by exact free)]
    refine ⟨fun other => congrArg _ (if_neg (by exact ne_true_of_eq_false other)), fun cadenced => ?_⟩
    rw [if_pos (by exact cadenced), State.startAcquisition, State.notifyCadence_of_none (by exact settled)]
    rfl
  · intro d tol near range allowed became first
    have within_d : within s.params.edgeTol d = true ↔ near := within_iff
    have allows : ∀ x, s.params.mainsNominal.allows x = true ↔ allowed x := fun _ => Mains.allows_iff
    have bare : ∀ t, exec (.riseReport slot rise) s =
        .next (((s.taking (.riseReport slot rise)).setTracker t).riseWithoutCandidate reference rise) → first t := by
      intro t run
      refine ⟨fun close => run.trans (congrArg _ (if_pos (by exact within_d.mpr close))), fun far inside => ?_,
        fun far outside => ?_⟩
      · exact run.trans (congrArg _ ((if_neg (by exact fun h => far (within_d.mp h))).trans
          (if_pos (by exact (allows d).mpr inside))))
      · exact run.trans (congrArg _ ((if_neg (by exact fun h => far (within_d.mp h))).trans
          (if_neg (by exact fun h => outside ((allows d).mp h)))))
    have run : s.tracker.anchor = some slot → exec (.riseReport slot rise) s =
        .next ((s.taking (.riseReport slot rise)).riseAcquiring reference rise) := fun anchor =>
      (exec_riseReport running slot rise).trans
        (congrArg _ (State.takeRise_of_acquiring (by exact acquiring) (by exact anchor) (by exact present)))
    refine ⟨fun other => ?_, fun anchor absent => ?_, fun c anchor candidate => ⟨fun outside => ?_, fun inside close => ?_,
      fun k inside far one eight least => ?_⟩⟩
    · have notFree : s.tracker.state ≠ .free := by simp [acquiring]
      exact (exec_riseReport running slot rise).trans
        (congrArg _ (State.takeRise_of_other (by exact notFree) (by exact other)))
    · refine bare _ ((run anchor).trans (congrArg _ ?_))
      exact State.riseAcquiring_of_none (by exact absent)
    · refine bare _ ((run anchor).trans (congrArg _ ?_))
      rw [State.riseAcquiring_of_some (by exact candidate)]
      exact if_neg (by exact fun h => outside ((allows c).mp h))
    all_goals
      have judged : exec (.riseReport slot rise) s =
          .next ((s.taking (.riseReport slot rise)).riseWithCandidate reference c rise) := by
        rw [run anchor, State.riseAcquiring_of_some (by exact candidate)]
        exact congrArg _ (if_pos (by exact (allows c).mpr inside))
    · exact judged.trans (congrArg _ (if_pos (by exact within_d.mpr close)))
    · intro n mean refined
      have nearest : nearestMultiple c d = k := nearestMultiple_eq one eight least
      have within_k : within s.params.edgeTol (d - ((k * c : Nat) : Int)) = true ↔ -tol ≤ d - k * c ∧ d - k * c ≤ tol := by
        rw [within_iff, Nat.cast_mul]
      have mean_eq : refinedCandidate s.params.mainsNominal c n k d = refined := by
        simp only [refinedCandidate, Nat.cast_mul]
        rfl
      have moved := judged.trans (congrArg _ (State.riseWithCandidate_of_far
        (by exact fun h => far (within_d.mp h)) (by exact nearest)))
      refine ⟨fun low high => ?_, fun apart => ?_⟩
      · rw [if_pos (by exact within_k.mpr ⟨low, high⟩)] at moved
        refine ⟨fun few => ?_, fun enough settled => ?_⟩
        · refine moved.trans (congrArg _ ((if_neg (by exact Nat.not_le.mpr few)).trans ?_))
          rw [← mean_eq]
          rfl
        · refine moved.trans (congrArg _ ((if_pos (by exact enough)).trans ?_))
          rw [← mean_eq, State.notifyCadence_of_none (by exact settled)]
          rfl
      · rw [if_neg (by exact fun h => apart (within_k.mp h))] at moved
        exact ⟨fun few => moved.trans (congrArg _ (if_pos (by exact few))),
          fun three => moved.trans (congrArg _ (if_neg (by exact Nat.not_lt.mpr three)))⟩

end Sys2Proof.Machine

/-! The attention flags and the pending conditions of the Control Port and Attention block (R176 to R179). -/

namespace Sys2Proof

/-! ## The conditions and the flags that CLEAR ATTENTION names -/

theorem LaneCondition.mem_all (c : LaneCondition) : c ∈ LaneCondition.all := by cases c <;> decide

theorem LaneCondition.priority_le (c : LaneCondition) : 1 ≤ c.priority ∧ c.priority ≤ 6 := by cases c <;> decide

theorem LaneCondition.priority_inj {c d : LaneCondition} : c.priority = d.priority ↔ c = d := by
  refine ⟨fun same => ?_, congrArg _⟩
  cases c <;> cases d <;> first | rfl | exact absurd same (by decide)

/-- The flag named by a bit of CLEAR ATTENTION's bytes (R182). -/
def FlagBytes.names (b : FlagBytes) (g : Flag) : Bool :=
  match g with
  | .lane c l => (b.laneByte c).getLsbD l.toNat
  | .tableFull => b.part.getLsbD 0
  | .cadenceChange => b.part.getLsbD 1

theorem FlagBytes.valid_iff (b : FlagBytes) :
    b.valid = true ↔ ¬((∃ c, 8 ≤ (b.laneByte c).toNat) ∨ 4 ≤ b.part.toNat) := by
  simp [FlagBytes.valid, LaneCondition.mem_all, List.all_eq_true]

end Sys2Proof

namespace Sys2Proof.Machine

open Sys2Proof

/-! ## The stored flags -/

theorem LaneFlags.get_put (f : LaneFlags) (c d : LaneCondition) (b : Bool) :
    (f.put c b).get d = if d = c then b else f.get d := by
  cases c <;> cases d <;> rfl

theorem Flags.get_put (f : Flags) (x y : Flag) (b : Bool) : (f.put x b).get y = if y = x then b else f.get y := by
  cases x with
  | lane c l =>
    cases y with
    | lane d m =>
      by_cases here : m = l
      · subst here
        simp [Flags.put, Flags.get, LaneFlags.get_put]
      · simp [Flags.put, Flags.get, PerLane.get_set_ne _ _ here, here]
    | tableFull => rfl
    | cadenceChange => rfl
  | tableFull => cases y <;> rfl
  | cadenceChange => cases y <;> rfl

theorem Flags.get_cleared (f : Flags) (b : FlagBytes) (g : Flag) : (f.cleared b).get g = (f.get g && !b.names g) := by
  cases g with
  | lane c l => cases l <;> cases c <;> rfl
  | tableFull => rfl
  | cadenceChange => rfl

/-! ## The pending conditions -/

/-- A flag of the condition of a priority number is set, or its set is not empty (Table 10-5). -/
def State.flagged (s : State) (n : Nat) : Prop :=
  (∃ c l, LaneCondition.priority c = n ∧ s.flags.get (.lane c l) = true) ∨
    (n = 7 ∧ s.flags.get .tableFull = true) ∨ (n = 8 ∧ s.flags.get .cadenceChange = true) ∨
    (n = 9 ∧ s.changed ≠ 0) ∨ (n = 10 ∧ s.advised ≠ 0)

/-- The condition of a priority number is pending and unmasked (R176). -/
def State.named (s : State) (n : Nat) : Prop := s.flagged n ∧ s.params.attentionMask[n - 1]? = some false

theorem Flags.anyLane_iff {f : Flags} {c : LaneCondition} : f.anyLane c = true ↔ ∃ l, f.get (.lane c l) = true := by
  simp [Flags.anyLane, Flags.get, Lane.mem_all]

theorem State.pendingCondition_priority (s : State) (c : LaneCondition) :
    s.pendingCondition c.priority = s.flags.anyLane c := by cases c <;> rfl

theorem State.flagged_priority {s : State} {c : LaneCondition} : s.flagged c.priority ↔ s.flags.anyLane c = true := by
  have bounds := c.priority_le
  simp only [State.flagged, Flags.anyLane_iff, LaneCondition.priority_inj]
  constructor
  · rintro (⟨d, l, rfl, set⟩ | ⟨seven, -⟩ | ⟨eight, -⟩ | ⟨nine, -⟩ | ⟨ten, -⟩)
    · exact ⟨l, set⟩
    all_goals omega
  · exact fun ⟨l, set⟩ => .inl ⟨c, l, rfl, set⟩

theorem State.pendingCondition_iff {s : State} {n : Nat} : s.pendingCondition n = true ↔ s.flagged n := by
  by_cases lane : ∃ c : LaneCondition, c.priority = n
  · obtain ⟨c, rfl⟩ := lane
    rw [s.pendingCondition_priority, State.flagged_priority]
  · have none : ∀ (c : LaneCondition) (l : Lane), ¬(c.priority = n ∧ s.flags.get (.lane c l) = true) :=
      fun c l h => lane ⟨c, h.1⟩
    have notLane : n ≠ 1 ∧ n ≠ 2 ∧ n ≠ 3 ∧ n ≠ 4 ∧ n ≠ 5 ∧ n ≠ 6 := by
      refine ⟨?_, ?_, ?_, ?_, ?_, ?_⟩ <;> rintro rfl
      exacts [lane ⟨.laneHalted, rfl⟩, lane ⟨.linkFault, rfl⟩, lane ⟨.switchFailed, rfl⟩, lane ⟨.noFallback, rfl⟩,
        lane ⟨.stackShed, rfl⟩, lane ⟨.fallbackDone, rfl⟩]
    simp only [State.flagged, none, exists_false, false_or]
    unfold State.pendingCondition
    split
    all_goals simp_all [Flags.get]

theorem State.flagged_le {s : State} {n : Nat} (flagged : s.flagged n) : 1 ≤ n ∧ n ≤ 10 := by
  rcases flagged with ⟨c, -, rfl, -⟩ | ⟨seven, -⟩ | ⟨eight, -⟩ | ⟨nine, -⟩ | ⟨ten, -⟩
  · have := c.priority_le
    omega
  all_goals omega

theorem State.masked_eq_false_iff {s : State} {n : Nat} (low : 1 ≤ n) (high : n ≤ 10) :
    s.masked n = false ↔ s.params.attentionMask[n - 1]? = some false := by
  rw [State.masked, Vector.getElem?_eq_getElem (by omega)]
  simp

theorem State.named_iff {s : State} {n : Nat} : (s.pendingCondition n && !s.masked n) = true ↔ s.named n := by
  rw [Bool.and_eq_true, State.pendingCondition_iff, Bool.not_eq_true', State.named]
  refine and_congr_right fun flagged => ?_
  obtain ⟨low, high⟩ := State.flagged_le flagged
  exact State.masked_eq_false_iff low high

theorem State.mem_numbers {n : Nat} : n ∈ [1, 2, 3, 4, 5, 6, 7, 8, 9, 10] ↔ 1 ≤ n ∧ n ≤ 10 := by
  simp only [List.mem_cons, List.not_mem_nil, or_false]
  omega

theorem State.attnLow_iff {s : State} : s.attnLow = true ↔ ∃ n, s.named n := by
  simp only [State.attnLow, State.highestPending, List.find?_isSome, State.named_iff, State.mem_numbers]
  exact ⟨fun ⟨n, _, named⟩ => ⟨n, named⟩, fun ⟨n, named⟩ => ⟨n, State.flagged_le named.1, named⟩⟩

/-! ## The bytes of a set -/

theorem setBytes_getElem? {w : Nat} (x : BitVec w) {n i : Nat} (inside : i / 8 < n) :
    ((setBytes x n)[i / 8]?).map (·.getLsbD (i % 8)) = some (x.getLsbD i) := by
  have split : 8 * (i / 8) + i % 8 = i := Nat.div_add_mod i 8
  have small : i % 8 < 8 := Nat.mod_lt i (by decide)
  rw [setBytes, List.getElem?_map, List.getElem?_range inside]
  simp only [Option.map_some, BitVec.getLsbD_extractLsb', split, small, decide_true, Bool.true_and]

@[simp] theorem setBytes_length {w : Nat} (x : BitVec w) (n : Nat) : (setBytes x n).length = n := by simp [setBytes]

/-- Settles O58: the flags one by one, and ATTN by the condition that is pending and unmasked. -/
theorem attentionFlagsAndSets : Obligations.AttentionFlagsAndSets := by
  unfold Obligations.AttentionFlagsAndSets
  intro s
  refine ⟨fun f running => ?_, fun ready => ⟨fun b => ?_, ?_⟩, ?_⟩
  · have run : exec (.attentionSetRequest f) s =
        .next { s.taking (.attentionSetRequest f) with flags := s.flags.put f true } :=
      event_of_running s (fun s => { s.taking (.attentionSetRequest f) with flags := s.flags.put f true }) running
    refine ⟨_, run, rfl, fun g => (s.flags.get_put f g true).trans ?_⟩
    by_cases here : g = f <;> simp [here]
  · intro c named bad
    have run : ∀ {x}, clearAttentionOwner b s = x → exec c s = .next (x.1.answering c x.2) := by
      rintro _ rfl
      exact transact_of_ready c s _ ready
    refine ⟨fun wrong => run (if_neg fun valid => b.valid_iff.mp valid wrong), fun right => ?_⟩
    exact ⟨_, run (if_pos (b.valid_iff.mpr right)), rfl, s.flags.get_cleared b⟩
  · refine ⟨_, transact_of_ready .takeChanges s _ ready, by simp, fun i => ?_, fun i => ?_⟩
    · rw [List.getElem?_append_left (by simp; omega)]
      exact setBytes_getElem? s.changed (by omega)
    · rw [List.getElem?_append_right (by simp)]
      simpa using setBytes_getElem? s.advised (n := 8) (i := i.val) (by omega)
  · rw [State.attnLow_iff]
    constructor
    · rintro ⟨_, ⟨c, l, rfl, set⟩ | ⟨rfl, set⟩ | ⟨rfl, set⟩ | ⟨rfl, set⟩ | ⟨rfl, set⟩, mask⟩
      · exact .inl ⟨c, l, set, mask⟩
      · exact .inr (.inl ⟨set, by simpa using mask⟩)
      · exact .inr (.inr (.inl ⟨set, by simpa using mask⟩))
      · exact .inr (.inr (.inr (.inl ⟨set, by simpa using mask⟩)))
      · exact .inr (.inr (.inr (.inr ⟨set, by simpa using mask⟩)))
    · rintro (⟨c, l, set, mask⟩ | ⟨set, mask⟩ | ⟨set, mask⟩ | ⟨set, mask⟩ | ⟨set, mask⟩)
      · exact ⟨_, .inl ⟨c, l, rfl, set⟩, mask⟩
      · exact ⟨7, .inr (.inl ⟨rfl, set⟩), by simpa using mask⟩
      · exact ⟨8, .inr (.inr (.inl ⟨rfl, set⟩)), by simpa using mask⟩
      · exact ⟨9, .inr (.inr (.inr (.inl ⟨rfl, set⟩))), by simpa using mask⟩
      · exact ⟨10, .inr (.inr (.inr (.inr ⟨rfl, set⟩))), by simpa using mask⟩

end Sys2Proof.Machine

/-! The parameters and the mode as SET PARAMETER, GET PARAMETER and SET MODE leave them (Table 10-4, R172, R173). -/

namespace Sys2Proof.Machine

open Sys2Proof

/-! ## The numbers of the parameters -/

/-- Table 10-4: a numeric parameter with its number and its range. -/
def Numeric.rows : List (Numeric × Nat × Nat × Nat) :=
  [(.lockCount, 2, 2, 8), (.edgeTol, 3, 100, 2000), (.holdoverLimit, 4, 1, 60), (.detectLevel, 5, 3, 40),
    (.steadyFloor, 6, 4, 48), (.matchTol, 7, 200, 3000), (.coverageLimit, 8, 4, 254), (.confirmCount, 9, 2, 15),
    (.fadeMisses, 10, 2, 64), (.retireMisses, 11, 4, 255), (.tentativeMisses, 12, 1, 16), (.grantLead, 13, 20, 500),
    (.guardFloor, 14, 0, 2000), (.guardCeiling, 15, 100, 2000), (.guardInitial, 16, 0, 2000),
    (.guardStep, 17, 10, 200), (.guardRelaxRun, 18, 8, 255), (.expiryMargin, 19, 500, 20000),
    (.strangerFloor, 20, 50, 2000), (.strainLosses, 21, 2, 15), (.recoverRun, 22, 2, 15), (.steerMargin, 23, 1, 32),
    (.settleTime, 24, 0, 30), (.switchCountdown, 25, 0, 15), (.switchTimeout, 26, 100, 10000),
    (.switchRetries, 27, 0, 7)]

theorem Param.of?_numeric (i : Fin 26) (q : Byte) :
    Param.of? (natByte (i.val + 2)) q = unqualified q (.numeric Numeric.all[i]) := by
  fin_cases i <;> rfl

/-- A row of the table is a numeric parameter's place in the list, two less, and its range. -/
theorem Numeric.rows_spec : ∀ row ∈ Numeric.rows,
    (∃ i : Fin 26, Numeric.all[i] = row.1 ∧ i.val + 2 = row.2.1) ∧ row.1.range = row.2.2 := by decide

theorem Param.of?_row {n : Numeric} {number least most : Nat} (row : (n, number, least, most) ∈ Numeric.rows) (q : Byte) :
    Param.of? (natByte number) q = unqualified q (.numeric n) ∧ n.range = (least, most) := by
  obtain ⟨⟨i, name, place⟩, range⟩ := Numeric.rows_spec _ row
  dsimp only at name place range
  exact ⟨by rw [← place, Param.of?_numeric, name], range⟩

theorem unqualified_of_ne {q : Byte} (qualified : q ≠ 0) (p : Param) : unqualified q p = none := if_neg qualified

theorem Param.of?_of_outside {n : Byte} (outside : n.toNat = 0 ∨ 32 ≤ n.toNat) (q : Byte) : Param.of? n q = none := by
  unfold Param.of?
  split
  case h_7 notZero _ _ _ _ _ =>
    have past : Numeric.all.length ≤ n.toNat - 2 := by
      have large := outside.resolve_left notZero
      simp only [Numeric.all, List.length_cons, List.length_nil]
      omega
    rw [List.getElem?_eq_none past]
    rfl
  all_goals first | rfl | omega

theorem Param.of?_mains (q : Byte) : Param.of? (natByte 1) q = unqualified q .mains := rfl
theorem Param.of?_overflowMask (q : Byte) : Param.of? (natByte 28) q = unqualified q .overflowMask := rfl
theorem Param.of?_underflowMask (q : Byte) : Param.of? (natByte 29) q = unqualified q .underflowMask := rfl

theorem Param.of?_holdoff (q : Byte) : Param.of? (natByte 30) q = (Lane.ofByte? q).map .holdoff := rfl

theorem Param.of?_attentionMask (q : Byte) : Param.of? (natByte 31) q = (maskIndex? q).map .attentionMask := rfl

theorem maskIndex?_of_outside {q : Byte} (outside : q.toNat = 0 ∨ 11 ≤ q.toNat) : maskIndex? q = none :=
  dif_neg (by omega)

theorem maskIndex?_natByte (i : Fin 10) : maskIndex? (natByte (i.val + 1)) = some i := by
  revert i
  decide

/-! ## The values -/

theorem flagOf?_of_small {v : Nat} (small : v ≤ 1) : flagOf? v = some (decide (v = 1)) := by
  interval_cases v <;> rfl

theorem flagOf?_of_large {v : Nat} (large : 2 ≤ v) : flagOf? v = none := by
  rw [flagOf?, if_neg (by omega), if_neg (by omega)]

theorem Params.set?_numeric (p : Params) (n : Numeric) (v : Nat) : p.set? (.numeric n) v =
    if n.range.1 ≤ v ∧ v ≤ n.range.2 ∧ (p.setNumeric n v).cross then some (p.setNumeric n v) else none := rfl

theorem Params.value_numeric (p : Params) (n : Numeric) : p.value (.numeric n) = p.numeric n := rfl

theorem Params.cross_iff {p : Params} : p.cross = true ↔
    p.fadeMisses < p.retireMisses ∧ p.guardFloor ≤ p.guardInitial ∧ p.guardInitial ≤ p.guardCeiling := by
  simp [Params.cross, and_assoc]

/-! ## The clamp of the three guards (R149) -/

section

variable {s : State}

def State.clampedGuard (s : State) (l : Lane) : Nat :=
  min (max (s.grants.get l).edgeGuard s.params.guardFloor) s.params.guardCeiling

/-- The lane's edge guard brought into its range. -/
def State.clampedLane (s : State) (l : Lane) : GrantLane := { s.grants.get l with edgeGuard := s.clampedGuard l }

theorem State.clampGuards_of_none (settled : s.resets = []) :
    ((s.clampGuard .l0).clampGuard .l1).clampGuard .l2 = { s with
      grants := ⟨s.clampedLane .l0, s.clampedLane .l1, s.clampedLane .l2⟩
      handed := s.handed ++
        (Lane.all.filter fun l => decide (s.clampedGuard l ≠ (s.grants.get l).edgeGuard)).map .guardChangeNotice } := by
  have clamp : ∀ {s : State} (_ : s.resets = []) (l : Lane), s.clampGuard l = { s with
      grants := s.grants.set l (s.clampedLane l), handed := s.handed ++
        ([l].filter fun l => decide (s.clampedGuard l ≠ (s.grants.get l).edgeGuard)).map .guardChangeNotice } := by
    intro s settled l
    rw [State.clampGuard, State.moveGuard_of_none settled]
    by_cases same : s.clampedGuard l = (s.grants.get l).edgeGuard
    · simp only [State.clampedGuard] at same
      simp [State.clampedLane, State.clampedGuard, same]
    · simp only [State.clampedGuard] at same
      simp [State.clampedLane, State.clampedGuard, same]
  rw [clamp settled .l0]
  rw [clamp (by exact settled) .l1]
  rw [clamp (by exact settled) .l2]
  have split : Lane.all = [.l0] ++ [.l1] ++ [.l2] := rfl
  rw [split, List.filter_append, List.filter_append, List.map_append, List.map_append, ← List.append_assoc, ← List.append_assoc]
  rfl

/-! ## SET PARAMETER and GET PARAMETER -/

variable {number q : Byte} {v : BitVec 32}

theorem exec_setParameter_of_none (ready : s.ready = true) (unknown : Param.of? number q = none) :
    exec (.setParameter number q v) s = .next (s.answering (.setParameter number q v) ⟨.badArgument, []⟩) :=
  transact_refuse _ s _ _ ready (by rw [setParameterOwner, unknown])

theorem exec_setParameter_of_refused (ready : s.ready = true) {x : Param} (known : Param.of? number q = some x)
    (refused : s.params.set? x v.toNat = none) :
    exec (.setParameter number q v) s = .next (s.answering (.setParameter number q v) ⟨.badArgument, []⟩) :=
  transact_refuse _ s _ _ ready (by simp only [setParameterOwner, known, refused])

theorem exec_setParameter_of_stored (ready : s.ready = true) {x : Param} (known : Param.of? number q = some x) {p : Params}
    (stored : s.params.set? x v.toNat = some p) (plain : x.clampsGuards = false) : exec (.setParameter number q v) s =
      .next { s.answering (.setParameter number q v) ⟨.done, []⟩ with params := p } := by
  refine (transact_of_ready _ s _ ready).trans ?_
  simp only [setParameterOwner, known, stored, plain]
  rfl

theorem exec_setParameter_of_clamped (ready : s.ready = true) {x : Param} (known : Param.of? number q = some x) {p : Params}
    (stored : s.params.set? x v.toNat = some p) (clamps : x.clampsGuards = true) : exec (.setParameter number q v) s =
      .next (((({ s with params := p }.clampGuard .l0).clampGuard .l1).clampGuard .l2).answering
        (.setParameter number q v) ⟨.done, []⟩) := by
  refine (transact_of_ready _ s _ ready).trans ?_
  simp only [setParameterOwner, known, stored, clamps, if_true]
  rfl

theorem exec_getParameter_of_none (ready : s.ready = true) (unknown : Param.of? number q = none) :
    exec (.getParameter number q) s = .next (s.answering (.getParameter number q) ⟨.badArgument, []⟩) :=
  transact_refuse _ s _ _ ready (by rw [getParameterOwner, unknown])

theorem exec_getParameter_of_some (ready : s.ready = true) {x : Param} (known : Param.of? number q = some x) :
    exec (.getParameter number q) s = .next (s.answering (.getParameter number q)
      ⟨.done, wordBytes (BitVec.ofNat 32 (s.params.value x))⟩) := by
  refine (transact_of_ready _ s _ ready).trans ?_
  rw [getParameterOwner, known]

theorem exec_getParameter_numeric (ready : s.ready = true) {n : Numeric} {number least most : Nat}
    (row : (n, number, least, most) ∈ Numeric.rows) : exec (.getParameter (natByte number) 0) s =
      .next (s.answering (.getParameter (natByte number) 0) ⟨.done, wordBytes (BitVec.ofNat 32 (s.params.numeric n))⟩) := by
  rw [← Params.value_numeric]
  exact exec_getParameter_of_some ready (Param.of?_row row 0).1

end

theorem Params.set?_flag_of_large {p : Params} {v : Nat} (large : 2 ≤ v) : p.set? .overflowMask v = none ∧
    p.set? .underflowMask v = none ∧ (∀ l, p.set? (.holdoff l) v = none) ∧ ∀ i, p.set? (.attentionMask i) v = none := by
  simp [Params.set?, flagOf?_of_large large]

theorem Params.set?_flag_of_small {p : Params} {v : Nat} (small : v ≤ 1) :
    p.set? .overflowMask v = some { p with overflowMask := decide (v = 1) } ∧
    p.set? .underflowMask v = some { p with underflowMask := decide (v = 1) } ∧
    (∀ l, p.set? (.holdoff l) v = some { p with holdoff := p.holdoff.set l (decide (v = 1)) }) ∧
    ∀ i, p.set? (.attentionMask i) v = some { p with attentionMask := p.attentionMask.set i (decide (v = 1)) } := by
  simp [Params.set?, flagOf?_of_small small]

theorem Param.of?_holdoff_lane (l : Lane) : Param.of? (natByte 30) l.byte = some (.holdoff l) := by
  rw [Param.of?_holdoff, Lane.ofByte?_byte]
  rfl

theorem Param.of?_attentionMask_index (i : Fin 10) :
    Param.of? (natByte 31) (natByte (i.val + 1)) = some (.attentionMask i) := by
  rw [Param.of?_attentionMask, maskIndex?_natByte]
  rfl

/-- Settles O57: the row of Table 10-4 names the parameter, and the three guards are clamped lane by lane. -/
theorem setParameterAndSetMode : Obligations.SetParameterAndSetMode := by
  unfold Obligations.SetParameterAndSetMode
  refine ⟨fun p n v => ⟨fun m => p.numeric_setNumeric m n v, ?_⟩, fun s q v ready settled => ?_, fun s m ready settled => ?_⟩
  · cases n <;> exact ⟨rfl, rfl, rfl, rfl, rfl⟩
  · intro set badArgument stored rows
    refine ⟨fun n number least most row => ?_, fun qualified => ?_, fun outside => ?_, fun outside => ?_,
      fun number outside => exec_setParameter_of_none ready (Param.of?_of_outside outside q), fun zero => ?_, fun fifty => ?_,
      fun sixty => ?_, fun notZero notFifty notSixty => ?_, fun small => ?_, fun large => ?_⟩
    · intro p fits guard
      obtain ⟨known, range⟩ := Param.of?_row row 0
      have set_eq : s.params.set? (.numeric n) v.toNat = if fits then some p else none := by
        simp only [Params.set?_numeric, range, Params.cross_iff]
        rfl
      refine ⟨fun qualified => exec_setParameter_of_none ready ?_, fun wrong => exec_setParameter_of_refused ready known ?_,
        fun right notFloor notCeiling => exec_setParameter_of_stored ready known ?_ ?_, fun right clamps => ?_,
        exec_getParameter_numeric ready row⟩
      · rw [(Param.of?_row row q).1, unqualified_of_ne qualified]
      · rw [set_eq, if_neg wrong]
      · rw [set_eq, if_pos right]
      · simp [Param.clampsGuards, notFloor, notCeiling]
      · have run := exec_setParameter_of_clamped ready known (set_eq.trans (if_pos right))
          (by rcases clamps with rfl | rfl <;> rfl)
        rw [State.clampGuards_of_none (by exact settled)] at run
        exact ⟨_, run, rfl, fun l => by cases l <;> rfl, rfl⟩
    · refine ⟨?_, ?_, ?_⟩ <;> exact exec_setParameter_of_none ready (unqualified_of_ne qualified _)
    · refine exec_setParameter_of_none ready ?_
      rw [Param.of?_holdoff, Lane.ofByte?_of_outside outside]
      rfl
    · refine exec_setParameter_of_none ready ?_
      rw [Param.of?_attentionMask, maskIndex?_of_outside outside]
      rfl
    · exact exec_setParameter_of_stored ready (Param.of?_mains 0) (by rw [zero]; rfl) rfl
    · exact exec_setParameter_of_stored ready (Param.of?_mains 0) (by rw [fifty]; rfl) rfl
    · exact exec_setParameter_of_stored ready (Param.of?_mains 0) (by rw [sixty]; rfl) rfl
    · refine exec_setParameter_of_refused ready (Param.of?_mains 0) ?_
      simp [Params.set?, Mains.ofValue?, notZero, notFifty, notSixty]
    · obtain ⟨overflow, underflow, holdoff, mask⟩ := Params.set?_flag_of_small (p := s.params) small
      exact ⟨exec_setParameter_of_stored ready (Param.of?_overflowMask 0) overflow rfl,
        exec_setParameter_of_stored ready (Param.of?_underflowMask 0) underflow rfl,
        fun l => exec_setParameter_of_stored ready (Param.of?_holdoff_lane l) (holdoff l) rfl,
        fun i => exec_setParameter_of_stored ready (Param.of?_attentionMask_index i) (mask i) rfl⟩
    · obtain ⟨overflow, underflow, holdoff, mask⟩ := Params.set?_flag_of_large (p := s.params) large
      exact ⟨exec_setParameter_of_refused ready (Param.of?_overflowMask 0) overflow,
        exec_setParameter_of_refused ready (Param.of?_underflowMask 0) underflow,
        fun l => exec_setParameter_of_refused ready (Param.of?_holdoff_lane l) (holdoff l),
        fun i => exec_setParameter_of_refused ready (Param.of?_attentionMask_index i) (mask i)⟩
  · have stored : ∀ x, Mode.ofByte? m = some x → exec (.setMode m) s =
        .next ((if s.mode = .bypass ∧ x = .run then State.hand { s with mode := x } .cpa .modeNotice
          else { s with mode := x }).answering (.setMode m) ⟨.done, []⟩) := by
      intro x known
      refine (transact_of_ready _ s _ ready).trans ?_
      simp only [setModeOwner, known]
      rfl
    refine ⟨fun zero => ?_, fun one => ?_, fun large => transact_refuse _ s _ _ ready ?_⟩
    · obtain rfl : m = 0 := BitVec.eq_of_toNat_eq zero
      rw [stored .run rfl, State.hand_of_none _ (by exact settled)]
      by_cases bypass : s.mode = .bypass
      · rw [if_pos ⟨bypass, rfl⟩, if_pos bypass]
        rfl
      · rw [if_neg (fun h => bypass h.1), if_neg bypass, List.append_nil]
        rfl
    · obtain rfl : m = 1 := BitVec.eq_of_toNat_eq one
      rw [stored .bypass rfl, if_neg (fun h => nomatch h.2)]
      rfl
    · have unknown : Mode.ofByte? m = none := by
        rw [Mode.ofByte?, if_neg (by rintro rfl; contradiction), if_neg (by rintro rfl; contradiction)]
      rw [setModeOwner, unknown]

end Sys2Proof.Machine

/-! A transaction of the control port: the bits it carries, and what READY makes of it (R167 to R169). -/

namespace Sys2Proof.Machine

open Sys2Proof

/-! ## The bits on SDO (R167, R182) -/

theorem bitsOfByte_getElem? (x : Byte) {b : Nat} (small : b < 8) : (bitsOfByte x)[b]? = some (x.getMsbD b) := by
  interval_cases b <;> simp [bitsOfByte, BitVec.getMsbD]

/-- Bit b of byte i, the most significant bit first, is bit 8·i + b of the stream. -/
theorem bitsOfBytes_getElem? (bytes : List Byte) (i : Nat) {b : Nat} (small : b < 8) :
    (bitsOfBytes bytes)[8 * i + b]? = (bytes[i]?).map (·.getMsbD b) := by
  induction bytes generalizing i with
  | nil => simp [bitsOfBytes]
  | cons x bytes ih =>
    rw [bitsOfBytes_cons]
    cases i with
    | zero =>
      rw [Nat.mul_zero, Nat.zero_add, List.getElem?_append_left small, bitsOfByte_getElem? x small]
      rfl
    | succ i =>
      have past : (bitsOfByte x).length ≤ 8 * (i + 1) + b := show 8 ≤ _ by omega
      have shift : 8 * (i + 1) + b - (bitsOfByte x).length = 8 * i + b := show 8 * (i + 1) + b - 8 = _ by omega
      rw [List.getElem?_append_right past, shift, ih i, List.getElem?_cons_succ]

theorem Response.shiftOut_length (r : Response) (clocks : Nat) : (r.shiftOut clocks).length = clocks := by
  simp [Response.shiftOut]

theorem Response.shiftOut_frame (r : Response) {clocks i b : Nat} (inside : i < r.frame.length) (small : b < 8)
    (clocked : 8 * i + b < clocks) : (r.shiftOut clocks)[8 * i + b]? = (r.frame[i]?).map (·.getMsbD b) := by
  have within : 8 * i + b < (bitsOfBytes r.frame).length := by
    rw [bitsOfBytes_length]
    omega
  rw [Response.shiftOut, List.getElem?_take_of_lt clocked, List.getElem?_append_left within, bitsOfBytes_getElem? _ i small]

theorem Response.shiftOut_after (r : Response) {clocks i : Nat} (past : 8 * r.frame.length ≤ i) (clocked : i < clocks) :
    (r.shiftOut clocks)[i]? = some false := by
  rw [Response.shiftOut, List.getElem?_take_of_lt clocked, List.getElem?_append_right (by rwa [bitsOfBytes_length]),
    List.getElem?_replicate_of_lt (by omega)]

/-! ## The commands of the control port -/

/-- A command that a frame spells is one transaction of its owner, or SOFT RESET. -/
theorem exec_of_codeAndBody {c : Instr} {frame : Byte × List Byte} (command : c.codeAndBody = some frame) :
    (∃ owner, ∀ s, exec c s = transact c s owner) ∨ c = .softReset := by
  cases c
  case softReset => exact .inr rfl
  all_goals first
    | (cases command; done)
    | exact .inl ⟨_, fun _ => rfl⟩

theorem Instr.clocksOf_eq {c : Instr} {code : Byte} {body : List Byte} (command : c.codeAndBody = some (code, body))
    (s : State) : s.clocksOf c = max (8 * (body.length + 3)) s.clocks := by
  rw [State.clocksOf, Instr.frameClocks, command]

/-- In a reset a command is turned away. -/
theorem exec_of_none {c : Instr} {frame : Byte × List Byte} (command : c.codeAndBody = some frame) {s : State}
    (low : s.ready = false) (idle : s.answer = none) : exec c s = .next (s.carryNotReady (s.clocksOf c)) := by
  obtain ⟨owner, exec_eq⟩ | rfl := exec_of_codeAndBody command
  · rw [exec_eq, transact_of_none c s owner low idle]
  · rw [show exec .softReset s = execSoftReset s from rfl, execSoftReset, port?_of_none s low idle]

/-- A transaction that waited for READY finds the command before it completed. -/
theorem exec_of_answer {c : Instr} (transaction : (encodeTransaction c).isSome = true) {s : State} {x : Response}
    (low : s.ready = false) (answer : s.answer = some x) : exec c s = exec c (s.completed x) := by
  have found := port?_of_answer s x low answer
  have again := port?_of_ready (s.completed x) rfl
  cases command : c.codeAndBody with
  | some frame =>
    obtain ⟨owner, exec_eq⟩ | rfl := exec_of_codeAndBody command
    · rw [exec_eq, exec_eq, transact_of_answer c s owner x low answer]
    · show execSoftReset s = execSoftReset (s.completed x)
      rw [execSoftReset, execSoftReset, found, again]
  | none =>
    cases c with
    | checkFailed sdi =>
      show execCheckFailed sdi s = execCheckFailed sdi (s.completed x)
      rw [execCheckFailed, execCheckFailed, found, again]
    | _ =>
      rw [encodeTransaction, command] at transaction
      · exact nomatch transaction
      all_goals nofun

/-! ## The part's own step in a command's execution -/

theorem State.prompts_of_noEvents {s : State} (quiet : s.readyEvents = []) : s.prompts = [] := by
  simp only [State.readyEvents, List.append_eq_nil_iff, List.map_eq_nil_iff] at quiet
  obtain ⟨⟨⟨⟨prompts, -⟩, -⟩, -⟩, -⟩ := quiet
  exact prompts

theorem step_of_answer {s : State} {x : Response} (empty : s.pending = []) (running : s.resetN = true)
    (quiet : s.readyEvents = []) (answer : s.answer = some x) :
    step s = .next ({ s with choices := s.choices + 1 }.completed x) ∨
      step s = .next { s with choices := s.choices + 1 }.passMicrosecond := by
  have two : s.happenings = [.completion, .microsecond] := by
    rw [State.happenings, quiet, answer, State.prompts_of_noEvents quiet]
    rfl
  have own : step s = State.happen (([Happening.completion, .microsecond])[s.choice 2]?.getD .completion) (s.chose 2) := by
    rw [step_of_idle empty, State.autonomous, if_pos running, two]
    rfl
  have chosen : s.chose 2 = { s with choices := s.choices + 1 } := rfl
  have first_or_second : s.choice 2 = 0 ∨ s.choice 2 = 1 := Nat.mod_two_eq_zero_or_one _
  rw [own, chosen]
  rcases first_or_second with first | second
  · left
    rw [first]
    show Host.Outcome.next ((s.answer.map _).getD _) = _
    rw [answer]
    rfl
  · right
    rw [second]
    rfl

/-- Settles O55: the bits by their place in the frame, then the port with READY high, in a reset and in a command. -/
theorem transactionsCarryThePendingResponse : Obligations.TransactionsCarryThePendingResponse := by
  unfold Obligations.TransactionsCarryThePendingResponse
  refine ⟨fun r clocks => ⟨r.shiftOut_length clocks, rfl, fun i b inside small clocked =>
      r.shiftOut_frame inside small clocked, fun i past clocked => r.shiftOut_after past clocked⟩,
    fun s c x code body command => ⟨?_, rfl⟩, fun s => ⟨fun ready => ?_, fun low => ?_⟩⟩
  · rw [State.answering, Instr.clocksOf_eq command]
  · refine ⟨transact_of_ready .nop s _ ready, fun code body => transact_refuse _ s _ _ ready rfl, fun sdi => ?_, ?_,
      fun sdi => if_pos ready⟩
    · show execCheckFailed sdi s = _
      rw [execCheckFailed, port?_of_ready s ready]
    · exact congrArg _ (if_pos ready)
  · refine ⟨congrArg _ (if_neg (ne_true_of_eq_false low)), fun sdi => if_neg (ne_true_of_eq_false low),
      fun idle => ⟨fun c code body command => ?_, fun sdi => ?_⟩, fun x answer => ⟨fun c transaction =>
        exec_of_answer transaction low answer, ?_, fun empty running quiet => step_of_answer empty running quiet answer⟩⟩
    · rw [exec_of_none command low idle, Instr.clocksOf_eq command]
      rfl
    · show execCheckFailed sdi s = _
      rw [execCheckFailed, port?_of_none s low idle]
      rfl
    · rw [State.happen, answer]
      rfl

end Sys2Proof.Machine

/-! The bytes and bits of the control port's answers (R180, R182, R183), and the highest pending condition (R177). -/

namespace Sys2Proof.Machine

open Sys2Proof

/-! ## Numbers as bytes -/

theorem extractLsb'_eq_natByte {w : Nat} (x : BitVec w) (k : Nat) : x.extractLsb' k 8 = natByte (x.toNat / 2 ^ k) := by
  rw [natByte, BitVec.extractLsb', Nat.shiftRight_eq_div_pow]

theorem natHalf_eq (n : Nat) : natHalf n = [natByte (n / 256), natByte n] := by
  have high : natByte (n % 2 ^ 16 / 2 ^ 8) = natByte (n / 256) := by
    apply BitVec.eq_of_toNat_eq
    simp only [natByte, BitVec.toNat_ofNat]
    omega
  have low : natByte (n % 2 ^ 16 / 2 ^ 0) = natByte n := by
    apply BitVec.eq_of_toNat_eq
    simp only [natByte, BitVec.toNat_ofNat]
    omega
  rw [natHalf, halfBytes, extractLsb'_eq_natByte, extractLsb'_eq_natByte, BitVec.toNat_ofNat, high, low]

theorem wordBytes_eq (x : BitVec 32) : wordBytes x =
    [natByte (x.toNat / 2 ^ 24), natByte (x.toNat / 2 ^ 16), natByte (x.toNat / 2 ^ 8), natByte x.toNat] := by
  simp only [wordBytes, extractLsb'_eq_natByte, Nat.pow_zero, Nat.div_one]

theorem addressBytes_eq (a : Address) : addressBytes a =
    [natByte (a.toNat / 2 ^ 40), natByte (a.toNat / 2 ^ 32), natByte (a.toNat / 2 ^ 24), natByte (a.toNat / 2 ^ 16),
      natByte (a.toNat / 2 ^ 8), natByte a.toNat] := by
  simp only [addressBytes, extractLsb'_eq_natByte, Nat.pow_zero, Nat.div_one]

/-! ## The bits of a byte of flags -/

theorem GoFlags.byte_bits (f : GoFlags) : f.byte.getLsbD 0 = f.stranger ∧ f.byte.getLsbD 1 = f.strained ∧
    f.byte.getLsbD 2 = f.narrowed ∧ f.byte.getLsbD 3 = f.holdover ∧ f.byte.getLsbD 4 = f.unpredicted ∧
    f.byte.getLsbD 5 = f.bypass ∧ f.byte.getLsbD 6 = false ∧ f.byte.getLsbD 7 = false := by
  obtain ⟨stranger, strained, narrowed, holdover, unpredicted, bypass⟩ := f
  revert stranger strained narrowed holdover unpredicted bypass
  decide

theorem laneBits_getLsbD (f : Lane → Bool) (l : Lane) : (laneBits f).getLsbD l.toNat = f l := by
  have bits : ∀ a b c : Bool, (BitVec.ofBoolListBE [false, false, false, false, false, c, b, a]).getLsbD 0 = a ∧
      (BitVec.ofBoolListBE [false, false, false, false, false, c, b, a]).getLsbD 1 = b ∧
      (BitVec.ofBoolListBE [false, false, false, false, false, c, b, a]).getLsbD 2 = c := by decide
  obtain ⟨zero, one, two⟩ := bits (f .l0) (f .l1) (f .l2)
  cases l
  · exact zero
  · exact one
  · exact two

theorem lowBits_getLsbD : ∀ a b c d : Bool,
    (BitVec.ofBoolListBE [false, false, false, false, d, c, b, a]).getLsbD 0 = a ∧
      (BitVec.ofBoolListBE [false, false, false, false, d, c, b, a]).getLsbD 1 = b ∧
      (BitVec.ofBoolListBE [false, false, false, false, d, c, b, a]).getLsbD 2 = c ∧
      (BitVec.ofBoolListBE [false, false, false, false, d, c, b, a]).getLsbD 3 = d := by decide

/-! ## The highest pending condition (R177) -/

/-- A search of a list in ascending order of a key finds the element of the smallest key. -/
theorem find?_of_least {α : Type} (key : α → Nat) {p : α → Bool} {xs : List α} (ascending : xs.Pairwise (key · < key ·))
    {x : α} (mem : x ∈ xs) (yes : p x = true) (least : ∀ y, p y = true → key x ≤ key y) : xs.find? p = some x := by
  cases found : xs.find? p with
  | none => exact absurd yes (List.find?_eq_none.mp found x mem)
  | some y =>
    obtain ⟨holds, earlier, later, split, passed⟩ := List.find?_eq_some_iff_append.mp found
    rw [split] at ascending mem
    rcases List.mem_append.mp mem with before | after
    · exact absurd yes (by simpa using passed x before)
    · rcases List.mem_cons.mp after with rfl | after
      · rfl
      · have less := List.rel_of_pairwise_cons (List.pairwise_append.mp ascending).2.1 after
        exact absurd (least y holds) (Nat.not_le.mpr less)

section

variable {s : State} {n : Nat}

theorem State.highestPending_of_least (named : s.named n) (least : ∀ m, s.named m → n ≤ m) : s.highestPending = some n :=
  find?_of_least id (by decide) (State.mem_numbers.mpr (State.flagged_le named.1)) (State.named_iff.mpr named)
    fun m yes => least m (State.named_iff.mp yes)

theorem State.highestPending_of_none (none : ∀ n, ¬s.named n) : s.highestPending = .none :=
  List.find?_eq_none.mpr fun n _ yes => none n (State.named_iff.mp yes)

theorem State.highestLane_of_none (none : s.highestPending = .none) : s.highestLane = .none := by
  rw [State.highestLane, none]

theorem State.highestLane_of_part (pending : s.highestPending = some n) (part : 7 ≤ n) : s.highestLane = none := by
  rw [State.highestLane, pending]
  split
  case h_7 => rfl
  all_goals next h => cases h; omega

theorem State.highestLane_of_lane {c : LaneCondition} (pending : s.highestPending = some c.priority) :
    s.highestLane = s.flags.firstLane c := by
  rw [State.highestLane, pending]
  cases c <;> rfl

theorem Flags.firstLane_of_least {f : Flags} {c : LaneCondition} {l : Lane} (set : f.get (.lane c l) = true)
    (least : ∀ m, f.get (.lane c m) = true → l.toNat ≤ m.toNat) : f.firstLane c = some l :=
  find?_of_least Lane.toNat (by decide) (Lane.mem_all l) set least

end

/-! ## The flag bytes of READ ATTENTION (R182) -/

section

variable (s : State)

theorem attentionBody_length : (attentionBody s).length = 10 := rfl

theorem attentionBody_lane (c : LaneCondition) (l : Lane) :
    ((attentionBody s)[1 + c.priority]?).map (·.getLsbD l.toNat) = some (s.flags.get (.lane c l)) := by
  have byte : (attentionBody s)[1 + c.priority]? = some (laneBits fun l => (s.flags.lanes.get l).get c) := by
    cases c <;> rfl
  rw [byte, Option.map_some, laneBits_getLsbD]
  rfl

theorem attentionBody_part :
    ((attentionBody s)[8]?).map (·.getLsbD 0) = some (s.flags.get .tableFull) ∧
      ((attentionBody s)[8]?).map (·.getLsbD 1) = some (s.flags.get .cadenceChange) ∧
      ((attentionBody s)[8]?).map (·.getLsbD 2) = some (decide (s.changed ≠ 0)) ∧
      ((attentionBody s)[8]?).map (·.getLsbD 3) = some (decide (s.advised ≠ 0)) := by
  have byte : (attentionBody s)[8]? = some (BitVec.ofBoolListBE [false, false, false, false, s.advised != 0, s.changed != 0,
      s.flags.cadenceChange, s.flags.tableFull]) := rfl
  obtain ⟨zero, one, two, three⟩ := lowBits_getLsbD s.flags.tableFull s.flags.cadenceChange (s.changed != 0) (s.advised != 0)
  rw [byte, Option.map_some, Option.map_some, Option.map_some, Option.map_some, zero, one, two, three]
  exact ⟨rfl, rfl, congrArg _ (Bool.eq_iff_iff.mpr (by simp)), congrArg _ (Bool.eq_iff_iff.mpr (by simp))⟩

theorem attentionBody_summary (l : Lane) : ∃ any, ((attentionBody s)[9]?).map (·.getLsbD l.toNat) = some any ∧
    (any = true ↔ ∃ c, s.flags.get (.lane c l) = true) := by
  have byte : (attentionBody s)[9]? = some (laneBits fun l => LaneCondition.all.any fun c => (s.flags.lanes.get l).get c) := rfl
  refine ⟨_, by rw [byte, Option.map_some, laneBits_getLsbD], ?_⟩
  simp only [List.any_eq_true, LaneCondition.mem_all, true_and]
  rfl

end

end Sys2Proof.Machine

/-! The commands that read (R53, R54, R87, R115, R171, R172, R175, R177): what each body holds, and that nothing changes. -/

namespace Sys2Proof.Machine

open Sys2Proof

/-! ## Commands whose owner changes nothing -/

section

variable {s : State}

theorem transact_of_owner {c : Instr} {owner : State → State × Response} {x : Response} (ready : s.ready = true)
    (answer : owner s = (s, x)) : transact c s owner = .next (s.answering c x) := by
  rw [transact_of_ready c s owner ready, answer]

theorem transact_of_unchanged {c : Instr} {owner : State → State × Response} (ready : s.ready = true)
    (unchanged : (owner s).1 = s) : ∃ x, transact c s owner = .next (s.answering c x) :=
  ⟨(owner s).2, transact_of_owner ready (Prod.ext unchanged rfl)⟩

theorem withLane_unchanged {f : Lane → State × Response} (n : Byte) (unchanged : ∀ l, (f l).1 = s) :
    (withLane n s f).1 = s := by
  unfold withLane
  split
  · exact unchanged _
  · rfl

theorem withRecord_unchanged {f : Slot → Interferer → State × Response} (n : Byte) (unchanged : ∀ k r, (f k r).1 = s) :
    (withRecord n s f).1 = s := by
  unfold withRecord
  split
  · rfl
  · split
    · rfl
    · exact unchanged _ _

theorem evalOwner_unchanged (n : Byte) (x : EvalTarget) : (evalOwner n x s).1 = s := by
  refine withLane_unchanged n fun l => ?_
  cases x with
  | position m =>
    dsimp only
    split
    · rfl
    · split
      · rfl
      · split <;> rfl
  | adHoc raw =>
    dsimp only
    split
    · rfl
    · split
      · rfl
      · split <;> rfl

theorem getParameterOwner_unchanged (n q : Byte) : (getParameterOwner n q s).1 = s := by
  unfold getParameterOwner
  split <;> rfl

theorem stationReadOwner_unchanged (n : Byte) : (stationReadOwner n s).1 = s := by
  unfold stationReadOwner
  split
  · rfl
  · rfl
  · split <;> rfl

theorem findOwner_unchanged (a : Address) : (findOwner a s).1 = s := by
  unfold findOwner
  split <;> rfl

/-- Every command that reads is answered and changes nothing but the port. -/
theorem exec_read (ready : s.ready = true) {c : Instr} (reads : c = .status ∨ c = .scan ∨ c = .readAttention ∨
    (∃ n q, c = .getParameter n q) ∨ (∃ l, c = .readPlans l) ∨ (∃ l x, c = .eval l x) ∨ (∃ l, c = .readLane l) ∨
    (∃ k, c = .interfererRead k) ∨ (∃ k, c = .stationRead k) ∨ ∃ a, c = .find a) :
    ∃ x, exec c s = .next (s.answering c x) := by
  rcases reads with rfl | rfl | rfl | ⟨n, q, rfl⟩ | ⟨n, rfl⟩ | ⟨n, x, rfl⟩ | ⟨n, rfl⟩ | ⟨n, rfl⟩ | ⟨n, rfl⟩ | ⟨a, rfl⟩
  case inl | inr.inl | inr.inr.inl => exact transact_of_unchanged ready rfl
  · exact transact_of_unchanged ready (getParameterOwner_unchanged n q)
  · exact transact_of_unchanged ready (withLane_unchanged n fun _ => rfl)
  · exact transact_of_unchanged ready (evalOwner_unchanged n x)
  · exact transact_of_unchanged ready (withLane_unchanged n fun _ => rfl)
  · exact transact_of_unchanged ready (withRecord_unchanged n fun _ _ => rfl)
  · exact transact_of_unchanged ready (stationReadOwner_unchanged n)
  · exact transact_of_unchanged ready (findOwner_unchanged a)

/-! ## The Interferer Table's bodies -/

theorem State.occupied_eq (s : State) : s.occupied = (s.table.toList.filter (·.isSome)).length := by
  simp [State.occupied, State.records, List.length_filterMap_eq_countP, List.countP_eq_length_filter]

theorem natByte_add (a b : Byte) : natByte (a.toNat + 4 * b.toNat) = a + 4 * b := by
  apply BitVec.eq_of_toNat_eq
  simp [natByte]

theorem natByte_toNat_eq (n : Byte) : natByte n.toNat = n := by simp [natByte]

theorem scanEntry_some (r : Interferer) :
    scanEntry (some r) = [r.life.byte + 4 * r.origin.byte, r.emission.kindByte + 4 * r.span.band.byte] := by
  rw [scanEntry, natByte_add, natByte_add]

theorem mark_beq (a b : Option Slot) : mark (a == b) = if decide (a = b) then (1 : Byte) else 0 := by
  rw [mark, Bool.eq_iff_iff.mpr (by simp : (a == b) = true ↔ decide (a = b) = true)]

/-! ## The lookup by role (R82, R83) -/

theorem State.lookup_primary (ok : s.StationsOk) {k : StationSlot} {r : Station} (slot : s.stations[k] = some r) :
    s.lookup r.primary = .station k false := by
  have individual := (ok.record k r slot).individual
  rw [State.lookup, if_neg (ne_true_of_eq_false individual)]
  cases primary : s.findPrimary r.primary with
  | none => exact absurd rfl (State.findPrimary_none primary slot)
  | some j =>
    obtain ⟨q, other, same⟩ := State.findPrimary_some primary
    have here := ok.apart j k q r r.primary other slot ((Station.uses_iff q _).mpr (.inl same))
      ((Station.uses_iff r _).mpr (.inl rfl))
    rw [here]

theorem State.lookup_alias (ok : s.StationsOk) {k : StationSlot} {r : Station} (slot : s.stations[k] = some r) {a : Address}
    (second : r.aliasAddr = some a) : s.lookup a = .station k true := by
  have individual := (ok.record k r slot).aliasIndividual a second
  have used := (Station.uses_iff r a).mpr (.inr second)
  rw [State.lookup, if_neg (ne_true_of_eq_false individual)]
  cases primary : s.findPrimary a with
  | some j =>
    obtain ⟨q, other, same⟩ := State.findPrimary_some primary
    obtain rfl := ok.apart j k q r a other slot ((Station.uses_iff q _).mpr (.inl same)) used
    obtain rfl : q = r := Option.some.inj (other.symm.trans slot)
    exact absurd (second.trans (congrArg some same.symm)) (ok.record j q slot).aliasDiffers
  | none =>
    cases named : s.findAlias a with
    | none => exact absurd second (State.findAlias_none named slot)
    | some j =>
      obtain ⟨q, other, same⟩ := State.findAlias_some named
      have here := ok.apart j k q r a other slot ((Station.uses_iff q _).mpr (.inr same)) used
      rw [here]

theorem stationReadOwner_of_free {n : Byte} {k : StationSlot} (number : n.toNat = k.val + 1) (free : s.stations[k] = none) :
    stationReadOwner n s = refuse s .notFound := by
  rw [stationReadOwner, StationRef.ofByte_of_number number]
  dsimp only
  rw [free]

theorem stationReadOwner_of_held {n : Byte} {k : StationSlot} (number : n.toNat = k.val + 1) {r : Station}
    (slot : s.stations[k] = some r) : stationReadOwner n s = (s, ⟨.done, stationBody k r⟩) := by
  rw [stationReadOwner, StationRef.ofByte_of_number number]
  dsimp only
  rw [slot]

/-! ## EVAL (R115) -/

section

variable {l : Lane} {n : Byte} {raw : RawPlan} {c : PlanSpan}

theorem PlanLane.top_of_empty {p : PlanLane} (empty : p.stack = []) : p.top = none := by
  rw [PlanLane.top, empty]
  rfl

theorem evalOwner_position (known : ¬(n.toNat < 1 ∨ 6 < n.toNat)) : evalOwner l.byte (.position n) s =
    match (s.plans.get l).top with
    | none => refuse s .emptyStack
    | some top =>
      match (s.plans.get l).stack[n.toNat - 1]? with
      | some e => evalAnswer s l e.plan top
      | none => refuse s .notFound :=
  (withLane_byte l s _).trans (if_neg known)

theorem evalOwner_position_of_empty (known : ¬(n.toNat < 1 ∨ 6 < n.toNat)) (empty : (s.plans.get l).stack = []) :
    evalOwner l.byte (.position n) s = refuse s .emptyStack := by
  rw [evalOwner_position known, PlanLane.top_of_empty empty]

theorem evalOwner_position_of_beyond (known : ¬(n.toNat < 1 ∨ 6 < n.toNat)) (filled : (s.plans.get l).stack ≠ [])
    (beyond : (s.plans.get l).stack.length < n.toNat) : evalOwner l.byte (.position n) s = refuse s .notFound := by
  have last : (s.plans.get l).top = some ((s.plans.get l).stack.getLast filled) := List.getLast?_eq_some_getLast filled
  rw [evalOwner_position known, last, List.getElem?_eq_none (by omega)]

theorem evalOwner_position_of_entry (known : ¬(n.toNat < 1 ∨ 6 < n.toNat)) {e top : PlanEntry}
    (entry : (s.plans.get l).stack[n.toNat - 1]? = some e) (last : (s.plans.get l).top = some top) :
    evalOwner l.byte (.position n) s = evalAnswer s l e.plan top := by
  rw [evalOwner_position known, last, entry]

theorem evalOwner_adHoc_of_invalid (invalid : planOf? raw = none) : evalOwner l.byte (.adHoc raw) s = refuse s .badArgument := by
  rw [evalOwner, withLane_byte]
  dsimp only
  rw [invalid]

theorem evalOwner_adHoc_of_other (known : planOf? raw = some c) (other : c.band ≠ (s.plans.get l).band) :
    evalOwner l.byte (.adHoc raw) s = refuse s .badArgument := by
  rw [evalOwner, withLane_byte]
  dsimp only
  rw [known]
  exact if_pos other

theorem evalOwner_adHoc_of_empty (known : planOf? raw = some c) (same : c.band = (s.plans.get l).band)
    (empty : (s.plans.get l).stack = []) : evalOwner l.byte (.adHoc raw) s = refuse s .emptyStack := by
  rw [evalOwner, withLane_byte]
  dsimp only
  rw [known]
  refine (if_neg (not_not.mpr same)).trans ?_
  rw [PlanLane.top_of_empty empty]

theorem evalOwner_adHoc_of_top (known : planOf? raw = some c) (same : c.band = (s.plans.get l).band) {top : PlanEntry}
    (last : (s.plans.get l).top = some top) : evalOwner l.byte (.adHoc raw) s = evalAnswer s l c top := by
  rw [evalOwner, withLane_byte]
  dsimp only
  rw [known]
  refine (if_neg (not_not.mpr same)).trans ?_
  rw [last]

end

/-! ## The bodies of READ PLANS and READ LANE -/

theorem readLaneBody_eq (p : PlanLane) (g : GrantLane) (k : LinkLane) (holdoff : Bool) :
    lanePlanBytes p ++ laneGrantBytes g ++ laneLinkBytes k holdoff =
      lanePlanBytes p ++ [natByte g.outstanding.length] ++ g.outstanding.flatMap grantBytes ++ natHalf g.edgeGuard ++
        [natByte g.okRun] ++ closureBytes g.lastClosure ++ laneLinkBytes k holdoff := by
  simp [laneGrantBytes]

theorem entryBytes_eq (q : PlanSpan → Option Nat) (n : Nat) (es : List PlanEntry) :
    entryBytes q n es = (es.zipIdx n).flatMap fun e =>
      [natByte e.2, natByte e.1.plan.primary, e.1.plan.width.byte, natByte e.1.tolerance, e.1.tag.byte,
        fractionByte (q e.1.plan)] := by
  induction es generalizing n with
  | nil => rfl
  | cons e es ih =>
    rw [entryBytes, ih, List.zipIdx_cons, List.flatMap_cons]
    rfl

end

end Sys2Proof.Machine

/-! The answers of the commands that read. -/

namespace Sys2Proof.Machine

open Sys2Proof

theorem wordBytes_flag (b : Bool) : wordBytes (BitVec.ofNat 32 b.toNat) = [0, 0, 0, if b then (1 : Byte) else 0] := by
  revert b
  decide

/-- A number outside the list, or a qualifier that its parameter does not take. -/
theorem Param.of?_of_wrong {n q : Byte} (wrong : n.toNat = 0 ∨ 32 ≤ n.toNat ∨ (n.toNat ≤ 29 ∧ q ≠ 0) ∨
    (n.toNat = 30 ∧ 3 ≤ q.toNat) ∨ (n.toNat = 31 ∧ (q.toNat = 0 ∨ 11 ≤ q.toNat))) : Param.of? n q = none := by
  have named : ∀ {m : Nat}, n.toNat = m → n = natByte m := by rintro _ rfl; exact (natByte_toNat_eq n).symm
  rcases wrong with zero | large | ⟨low, qualified⟩ | ⟨thirty, outside⟩ | ⟨last, outside⟩
  · exact Param.of?_of_outside (.inl zero) q
  · exact Param.of?_of_outside (.inr large) q
  · unfold Param.of?
    split
    · rfl
    · exact unqualified_of_ne qualified _
    · exact unqualified_of_ne qualified _
    · exact unqualified_of_ne qualified _
    · omega
    · omega
    · exact Option.bind_eq_none_iff.mpr fun k _ => unqualified_of_ne qualified _
  · rw [named thirty, Param.of?_holdoff, Lane.ofByte?_of_outside outside]
    rfl
  · rw [named last, Param.of?_attentionMask, maskIndex?_of_outside outside]
    rfl

/-- Settles O56: no owner changes the part, and each body is written out field by field. -/
theorem readsChangeNothing : Obligations.ReadsChangeNothing := by
  unfold Obligations.ReadsChangeNothing
  refine ⟨natHalf_eq, wordBytes_eq, addressBytes_eq, ⟨rfl, rfl, rfl, rfl, rfl, rfl, rfl, rfl, rfl, rfl, rfl, rfl, rfl, rfl, rfl,
    rfl, GoFlags.byte_bits⟩, fun s ready => ?_⟩
  intro answered refusedWith fraction shown bit
  have answer : ∀ {c : Instr} {owner : State → State × Response} {body : List Byte}, (∀ s, exec c s = transact c s owner) →
      owner s = (s, ⟨.done, body⟩) → answered c body := fun run same =>
    (run s).trans (transact_of_owner ready same)
  have refused : ∀ {c : Instr} {owner : State → State × Response} {x : Status}, (∀ s, exec c s = transact c s owner) →
      owner s = refuse s x → refusedWith c x := fun run same =>
    (run s).trans (transact_of_owner ready same)
  refine ⟨fun c => exec_read ready, ?_, ?_, ⟨attentionBody s, answer (fun _ => rfl) rfl, attentionBody_length s, ?_,
    attentionBody_lane s, (attentionBody_part s).1, (attentionBody_part s).2.1, (attentionBody_part s).2.2.1,
    (attentionBody_part s).2.2.2, attentionBody_summary s⟩, ?_, fun n x outside => ?_, fun l => ?_, fun n => ⟨fun large => ?_, fun k number => ?_⟩,
    fun n => ⟨fun large => ?_, fun zero => ?_, fun k number => ?_⟩, fun a => ⟨fun group => ?_, fun individual unused => ?_⟩⟩
  · refine answer (fun _ => rfl) ?_
    rw [← s.occupied_eq]
    rfl
  · refine answer (fun _ => rfl) (congrArg (fun body => (s, Response.mk .done body)) ?_)
    rw [scanBody, s.occupied_eq]
    refine congrArg _ (List.flatMap_congr fun e _ => ?_)
    cases e with
    | none => rfl
    | some r => exact scanEntry_some r
  · intro flagged named
    have number : ∀ {q}, s.highestPending = q → (attentionBody s)[0]? = some (natByte (q.getD 0)) := by rintro _ rfl; rfl
    have lane : ∀ {q}, s.highestLane = q → (attentionBody s)[1]? = some (optLaneByte q) := by rintro _ rfl; rfl
    refine ⟨fun none => ?_, fun n here least => ?_⟩
    · have pending := State.highestPending_of_none none
      exact ⟨number pending, lane (State.highestLane_of_none pending)⟩
    · have pending := State.highestPending_of_least here least
      refine ⟨number pending, fun part => lane (State.highestLane_of_part pending part), fun c l priority set first => ?_⟩
      rw [← priority] at pending
      exact lane ((State.highestLane_of_lane pending).trans (Flags.firstLane_of_least set first))
  · have get : ∀ {number q : Byte} {x : Param} {bytes : List Byte}, Param.of? number q = some x →
        wordBytes (BitVec.ofNat 32 (s.params.value x)) = bytes → answered (.getParameter number q) bytes := by
      rintro number q x _ known rfl
      exact exec_getParameter_of_some ready known
    refine ⟨get (x := .numeric .holdoverLimit) rfl rfl, get (x := .mains) rfl ?_, get (x := .overflowMask) rfl (wordBytes_flag _),
      get (x := .underflowMask) rfl (wordBytes_flag _), fun l => get (Param.of?_holdoff_lane l) (wordBytes_flag _),
      fun i => get (Param.of?_attentionMask_index i) (wordBytes_flag _), fun n q wrong => exec_getParameter_of_none ready
        (Param.of?_of_wrong wrong)⟩
    show wordBytes (BitVec.ofNat 32 s.params.mainsNominal.value) = _
    cases s.params.mainsNominal <;> rfl
  · exact ⟨refused (fun _ => rfl) (withLane_of_outside outside s _), refused (fun _ => rfl) (withLane_of_outside outside s _),
      refused (fun _ => rfl) (withLane_of_outside outside s _)⟩
  · dsimp only
    refine ⟨?_, ?_, fun n outside => ?_, fun n low high empty => ?_, fun n high filled beyond => ?_,
      fun n e top low high entry last => ?_, fun raw invalid => ?_, fun c valid => ⟨fun other => ?_, fun same empty => ?_,
        fun top same last => ?_⟩⟩
    · refine answer (fun _ => rfl) ((withLane_byte l s _).trans (congrArg (fun body => (s, Response.mk .done body)) ?_))
      rw [plansBody, entryBytes_eq, List.append_cons]
      cases (s.plans.get l).switch <;> rfl
    · refine answer (fun _ => rfl) ((withLane_byte l s _).trans (congrArg (fun body => (s, Response.mk .done body)) ?_))
      rw [readLaneBody_eq]
      refine congrArg₂ (· ++ ·) (congrArg₂ (· ++ ·) (congrArg (· ++ _) (congrArg (· ++ _)
        (congrArg₂ (· ++ ·) (congrArg (· ++ _) ?_) (List.flatMap_congr fun x _ => ?_)))) ?_) ?_
      · rw [lanePlanBytes]
        cases (s.plans.get l).stack.getLast? <;> rfl
      · rw [grantBytes]
        cases x.cls <;> rfl
      · rcases (s.grants.get l).lastClosure with _ | ⟨id, code, _ | used⟩ <;> rfl
      · rw [laneLinkBytes]
        cases (s.links.get l).holder <;> rfl
    · exact refused (fun _ => rfl) ((withLane_byte l s _).trans (if_pos (by omega)))
    · exact refused (fun _ => rfl) (evalOwner_position_of_empty (by omega) empty)
    · have deep : 1 ≤ (s.plans.get l).stack.length := List.length_pos_of_ne_nil filled
      exact refused (fun _ => rfl) (evalOwner_position_of_beyond (by omega) filled beyond)
    · exact answer (fun _ => rfl) (evalOwner_position_of_entry (by omega) entry last)
    · exact refused (fun _ => rfl) (evalOwner_adHoc_of_invalid (planOf?_of_invalid invalid))
    · exact refused (fun _ => rfl) (evalOwner_adHoc_of_other (planOf?_bytes valid) other)
    · exact refused (fun _ => rfl) (evalOwner_adHoc_of_empty (planOf?_bytes valid) same empty)
    · exact answer (fun _ => rfl) (evalOwner_adHoc_of_top (planOf?_bytes valid) same last)
  · exact refused (fun _ => rfl) (withRecord_of_large _ large)
  · refine ⟨fun free => refused (fun _ => rfl) (withRecord_of_free _ number free), fun r slot => ?_⟩
    refine answer (fun _ => rfl) ((withRecord_of_held _ number slot).trans
      (congrArg (fun body => (s, Response.mk .done body)) ?_))
    obtain rfl : n = natByte k.val := by rw [← number, natByte_toNat_eq]
    rw [interfererBody, mark_beq]
    obtain ⟨⟨on, _ | phase⟩ | duty | duty, span⟩ := r <;> rfl
  · exact refused (fun _ => rfl) (by rw [stationReadOwner, StationRef.ofByte_of_large large])
  · exact answer (fun _ => rfl) (by rw [stationReadOwner, StationRef.ofByte_of_zero zero]; rfl)
  · obtain rfl : n = natByte (stationNumber k) := by rw [stationNumber, ← number, natByte_toNat_eq]
    refine ⟨fun free => refused (fun _ => rfl) (stationReadOwner_of_free number free), fun r slot => ⟨?_, fun ok => ⟨?_, fun a second => ?_⟩⟩⟩
    · refine answer (fun _ => rfl) ?_
      rw [stationReadOwner_of_held number slot]
      refine congrArg (fun body => (s, Response.mk .done body)) ?_
      rw [stationBody]
      cases r.aliasAddr <;> cases r.advice <;> rfl
    · exact answer (fun _ => rfl) (by rw [findOwner, State.lookup_primary ok slot]; rfl)
    · exact answer (fun _ => rfl) (by rw [findOwner, State.lookup_alias ok slot second]; rfl)
  · exact answer (fun _ => rfl) (by rw [findOwner, State.lookup, if_pos group])
  · exact refused (fun _ => rfl) (by rw [findOwner, State.lookup_of_unused individual unused])

end Sys2Proof.Machine

/-! What the bits of a transaction spell: the parts of a body, the body of each command and the frame, written and read
back (R167, R169, R180, R182). -/

namespace Sys2Proof

/-! ## The parts of a body (R180) -/

section

variable (rest : List Byte)

theorem readOptByte_bytes (x : Option Byte) : readOptByte (optByteBytes x ++ rest) = some (x, rest) := by
  cases x <;> rfl

theorem readOptHalf_bytes (x : Option Half) : readOptHalf (optHalfBytes x ++ rest) = some (x, rest) := by
  cases x with
  | none => rfl
  | some a => exact congrArg (fun h => some (some h, rest)) (half_extract a)

theorem readOptSpan_bytes (x : Option (Byte × Byte)) : readOptSpan (optSpanBytes x ++ rest) = some (x, rest) := by
  cases x <;> rfl

theorem readOptAddress_bytes (x : Option Address) : readOptAddress (optAddressBytes x ++ rest) = some (x, rest) := by
  cases x with
  | none => rfl
  | some a => exact congrArg (fun h => some (some h, rest)) (address_extract a)

theorem readGivenHalf_bytes (x : Given Half) : readGivenHalf (givenHalfBytes x ++ rest) = some (x, rest) := by
  cases x with
  | omitted => rfl
  | value a => exact congrArg (fun h => some (Given.value h, rest)) (half_extract a)
  | remove => rfl

theorem readGivenAddress_bytes (x : Given Address) : readGivenAddress (givenAddressBytes x ++ rest) = some (x, rest) := by
  cases x with
  | omitted => rfl
  | value a => exact congrArg (fun h => some (Given.value h, rest)) (address_extract a)
  | remove => rfl

end

/-! ## The bodies with optional arguments -/

theorem readPlace_bytes (a : PlaceArgs) :
    readPlace ([a.kind, a.band, a.first, a.count, a.level] ++ optByteBytes a.duty ++ optHalfBytes a.onDuration ++
      optHalfBytes a.phase) = some a := by
  have phase := readOptHalf_bytes [] a.phase
  rw [List.append_nil] at phase
  simp only [List.append_assoc, List.cons_append, List.nil_append, readPlace, readOptByte_bytes, readOptHalf_bytes, phase]

theorem readInterfererAmend_bytes (a : InterfererAmendArgs) :
    readInterfererAmend ([a.slot] ++ optSpanBytes a.span ++ optByteBytes a.level ++ optByteBytes a.kind ++
      optByteBytes a.duty ++ optHalfBytes a.onDuration ++ givenHalfBytes a.phase) = some a := by
  have phase := readGivenHalf_bytes [] a.phase
  rw [List.append_nil] at phase
  simp only [List.append_assoc, List.cons_append, List.nil_append, readInterfererAmend, readOptSpan_bytes, readOptByte_bytes,
    readOptHalf_bytes, phase]

theorem readAdmit_bytes (a : AdmitArgs) :
    readAdmit (addressBytes a.primary ++ optAddressBytes a.aliasAddr ++ [a.bands, a.width, a.home] ++
      optHalfBytes a.floor) = some a := by
  have floor := readOptHalf_bytes [] a.floor
  rw [List.append_nil] at floor
  simp only [addressBytes, List.append_assoc, List.cons_append, List.nil_append, readAdmit, readOptAddress_bytes, floor,
    address_extract]

theorem readStationAmend_bytes (a : StationAmendArgs) :
    readStationAmend ([a.slot] ++ givenAddressBytes a.aliasAddr ++ optByteBytes a.bands ++ optByteBytes a.width ++
      optByteBytes a.home ++ optHalfBytes a.floor) = some a := by
  have floor := readOptHalf_bytes [] a.floor
  rw [List.append_nil] at floor
  simp only [List.append_assoc, List.cons_append, List.nil_append, readStationAmend, readGivenAddress_bytes,
    readOptByte_bytes, floor]

theorem readEval_bytes (lane : Byte) (x : EvalTarget) : readEval (lane :: evalTargetBytes x) = some (.eval lane x) := by
  cases x <;> rfl

/-! ## The commands -/

/-- The code and body of a host command spell it; those of UNKNOWN_COMMAND spell none. -/
theorem decodeCommand_codeAndBody {i : Instr} {code : Byte} {body : List Byte} (written : i.codeAndBody = some (code, body))
    (known : i ≠ .unknownCommand code body) : decodeCommand code body = some i := by
  cases i
  case unknownCommand => cases written; exact absurd rfl known
  case place a => cases written; exact congrArg (Option.map Instr.place) (readPlace_bytes a)
  case interfererAmend a => cases written; exact congrArg (Option.map Instr.interfererAmend) (readInterfererAmend_bytes a)
  case admitStation a => cases written; exact congrArg (Option.map Instr.admitStation) (readAdmit_bytes a)
  case stationAmend a => cases written; exact congrArg (Option.map Instr.stationAmend) (readStationAmend_bytes a)
  case eval lane x => cases written; exact readEval_bytes lane x
  case find a => cases written; exact congrArg (fun a => some (Instr.find a)) (address_extract a)
  case setParameter n q v => cases written; exact congrArg (fun v => some (Instr.setParameter n q v)) (word_extract v)
  all_goals cases written <;> rfl

/-! ## The frame -/

/-- A frame whose body fits its length byte spells its command, whatever bytes follow. -/
theorem decodeBytes_frame (code : Byte) (body more : List Byte) (fits : body.length ≤ 255) :
    decodeBytes (frameBytes code body ++ more) = some ((decodeCommand code body).getD (.unknownCommand code body)) := by
  have frame : frameBytes code body ++ more =
      code :: natByte body.length :: (body ++ checkByte (code :: natByte body.length :: body) :: more) := by
    simp [frameBytes, withCheck]
  rw [frame, decodeBytes]
  simp [natByte_toNat fits]

theorem decodeTransaction_frame (code : Byte) (body : List Byte) (more : List Bool) (fits : body.length ≤ 255) :
    decodeTransaction (bitsOfBytes (frameBytes code body) ++ more) =
      (decodeCommand code body).getD (.unknownCommand code body) := by
  rw [decodeTransaction, bytesOfBits_bitsOfBytes, decodeBytes_frame code body _ fits]
  rfl

/-- A well-formed command is read back from its frame, with more clocks after it or none. -/
theorem decodeTransaction_codeAndBody {i : Instr} {code : Byte} {body : List Byte} (wellFormed : i.wellFormed = true)
    (written : i.codeAndBody = some (code, body)) (more : List Bool) :
    decodeTransaction (bitsOfBytes (frameBytes code body) ++ more) = i := by
  have fits : body.length ≤ 255 := Laws.BodyFits.of_any i wellFormed _ written
  rw [decodeTransaction_frame code body more fits]
  by_cases unknown : i = .unknownCommand code body
  · subst unknown
    simp only [Instr.wellFormed, Bool.and_eq_true, Option.isNone_iff_eq_none] at wellFormed
    rw [wellFormed.2]
    rfl
  · rw [decodeCommand_codeAndBody written unknown]
    rfl

end Sys2Proof

namespace Sys2Proof.Machine

open Sys2Proof

/-- Settles O3: each part of a body is read back, then the body of each command, then the frame with whatever follows it. -/
theorem transactionSpellsItsCommand : Obligations.TransactionSpellsItsCommand := by
  unfold Obligations.TransactionSpellsItsCommand
  intro i sdi wellFormed spelt
  by_cases failed : ∃ bits, i = .checkFailed bits
  · obtain ⟨bits, rfl⟩ := failed
    obtain rfl : bits = sdi := Option.some.inj spelt
    exact ⟨by simpa [Instr.wellFormed] using wellFormed, fun other => absurd rfl (other bits)⟩
  · have frame : i.codeAndBody.map (fun cb => bitsOfBytes (frameBytes cb.1 cb.2)) = some sdi := by
      rwa [encodeTransaction] at spelt
      exact fun bits same => failed ⟨bits, same⟩
    obtain ⟨⟨code, body⟩, written, rfl⟩ := Option.map_eq_some_iff.mp frame
    have spells := decodeTransaction_codeAndBody wellFormed written
    exact ⟨by simpa using spells [], fun _ => spells⟩

end Sys2Proof.Machine

/-! What one observation does to the table (R36 to R38, R67 to R70), and the marks of a change (Table 3-4). -/

namespace Sys2Proof.Machine

open Sys2Proof

/-! ## The slot of an observation (R36, R37, R69) -/

namespace Intake

variable {s : State} {i : Intake} {o : Observation} {k : Slot}

/-- The TENTATIVE record of a slot not yet taken in the survey. -/
def evictable? (i : Intake) (k : Slot) : Option Interferer :=
  (i.table[k]).filter fun r => r.life == .tentative && !i.isTaken k

theorem evictable?_iff {r : Interferer} : i.evictable? k = some r ↔
    i.table[k] = some r ∧ r.life = .tentative ∧ ∀ x ∈ i.taken, x.1 ≠ k := by
  rw [← i.isTaken_eq_false]
  simp [evictable?, Option.filter_eq_some_iff]

/-- The slot evicted: none with nothing to evict, else that of least confidence, then most misses, then lowest. -/
theorem evictee_cases (i : Intake) : ((∀ k, i.evictable? k = none) → i.evictee = none) ∧
    ∀ k r, i.evictable? k = some r → (∀ j q, i.evictable? j = some q → r.confidence < q.confidence ∨
      (r.confidence = q.confidence ∧ (q.misses < r.misses ∨ (q.misses = r.misses ∧ k ≤ j)))) → i.evictee = some k := by
  unfold Intake.evictee
  have best := foldl_best
    (fun q r : Interferer => r.confidence < q.confidence ∨ (r.confidence = q.confidence ∧ q.misses < r.misses))
    i.evictable?
    (fun (best : Option (Slot × Interferer)) k =>
      match i.table[k] with
      | none => best
      | some r =>
        if r.life == .tentative && !i.isTaken k then
          match best with
          | none => some (k, r)
          | some (j, q) =>
            if r.confidence < q.confidence ∨ (r.confidence = q.confidence ∧ q.misses < r.misses) then some (k, r)
            else some (j, q)
        else best)
    (fun b k none => ?_) (fun k r found => ?_) (fun j q k r found => ?_)
  · refine ⟨fun none => congrArg (Option.map (·.1)) (best.1 none), fun k r found least => ?_⟩
    refine congrArg (Option.map (·.1)) (best.2 k r found (fun j q other less => ?_) fun j q other less => ?_)
    · have := least j q other
      simp only [Fin.le_def, Fin.lt_def] at *
      omega
    · have := least j q other
      omega
  · cases slot : i.table[k] with
    | none => rfl
    | some r =>
      rw [evictable?, slot] at none
      exact if_neg (by simpa using none)
  · obtain ⟨slot, life, free⟩ := evictable?_iff.mp found
    rw [slot]
    exact if_pos (by simp [life, (i.isTaken_eq_false k).mpr free])
  · obtain ⟨slot, life, free⟩ := evictable?_iff.mp found
    rw [slot]
    exact if_pos (by simp [life, (i.isTaken_eq_false k).mpr free])

/-! ## One observation (R36 to R38, R69, R70) -/

theorem take_of_chosen {r : Interferer} (chosen : i.choose s o = some k) (slot : i.table[k] = some r) :
    Intake.take s i o = { i with
      table := i.table.set k (some (r.matched s.params s.tracker o))
      marks := i.marks.join (changeMarks k r (r.matched s.params s.tracker o)), taken := i.taken ++ [(k, o)] } := by
  rw [Intake.take, chosen]
  dsimp only
  rw [slot]

theorem take_of_empty (unmatched : i.choose s o = none) (free : i.empty = some k) : Intake.take s i o = i.create s o k := by
  rw [Intake.take, unmatched]
  dsimp only
  rw [free]

theorem take_of_evictee (unmatched : i.choose s o = none) (full : i.empty = none) (out : i.evictee = some k) :
    Intake.take s i o = { i.create s o k with anchorGone := i.anchorGone || decide (s.tracker.anchor = some k) } := by
  rw [Intake.take, unmatched]
  dsimp only
  rw [full]
  dsimp only
  rw [out, ← Bool.eq_iff_iff.mpr (by simp : (s.tracker.anchor == some k) = true ↔ decide (s.tracker.anchor = some k) = true)]

theorem take_of_full (unmatched : i.choose s o = none) (full : i.empty = none) (noEvictee : i.evictee = none) :
    Intake.take s i o = { i with dropped := i.dropped + 1 } := by
  rw [Intake.take, unmatched]
  dsimp only
  rw [full]
  dsimp only
  rw [noEvictee]

end Intake

/-! ## The marks of a change (Table 3-4) -/

/-- A change of life state, or of a counting record in span, kind, duty, on-duration or phase presence. -/
def WholeChange (old new : Interferer) : Prop :=
  old.life ≠ new.life ∨ (new.counting = true ∧ (old.span ≠ new.span ∨
    old.emission.withoutPhase ≠ new.emission.withoutPhase ∨ old.phase.isSome ≠ new.phase.isSome))

section

variable {k j : Slot} {old new : Interferer}

theorem changeMarks_of_whole (whole : WholeChange old new) : changeMarks k old new = .both k := by
  unfold changeMarks
  by_cases life : old.life ≠ new.life
  · exact if_pos life
  · obtain ⟨counting, parts⟩ := whole.resolve_left life
    rw [if_neg life, if_neg (by simp [counting]), if_pos parts]

theorem changeMarks_of_phase (whole : ¬WholeChange old new) (moved : new.counting = true ∧ old.phase ≠ new.phase) :
    changeMarks k old new = ⟨slotBit k, 0⟩ := by
  obtain ⟨life, parts⟩ := not_or.mp whole
  obtain ⟨counting, phase⟩ := moved
  unfold changeMarks
  rw [if_neg life, if_neg (by simp [counting]), if_neg fun h => parts ⟨counting, h⟩, if_pos phase]

theorem changeMarks_of_neither (whole : ¬WholeChange old new) (moved : ¬(new.counting = true ∧ old.phase ≠ new.phase)) :
    changeMarks k old new = .none := by
  obtain ⟨life, parts⟩ := not_or.mp whole
  unfold changeMarks
  rw [if_neg life]
  by_cases counting : new.counting = true
  · rw [if_neg (by simp [counting]), if_neg fun h => parts ⟨counting, h⟩, if_neg fun h => moved ⟨counting, h⟩]
  · exact if_pos (by simp [counting])

theorem slotBit_iff : (slotBit k).getLsbD j.val = true ↔ j = k := by rw [slotBit_getLsbD, decide_eq_true_iff]

theorem not_zero_bit (w : Nat) (n : Nat) : ¬(0 : BitVec w).getLsbD n = true := by simp

theorem changeMarks_entered : (changeMarks k old new).entered.getLsbD j.val = true ↔ j = k ∧ WholeChange old new := by
  by_cases whole : WholeChange old new
  · rw [changeMarks_of_whole whole, and_iff_left whole]
    exact slotBit_iff
  · refine iff_of_false ?_ fun h => whole h.2
    by_cases moved : new.counting = true ∧ old.phase ≠ new.phase
    · rw [changeMarks_of_phase whole moved]
      exact not_zero_bit 32 _
    · rw [changeMarks_of_neither whole moved]
      exact not_zero_bit 32 _

theorem changeMarks_noticed : (changeMarks k old new).noticed.getLsbD j.val = true ↔
    j = k ∧ (WholeChange old new ∨ (new.counting = true ∧ old.phase ≠ new.phase)) := by
  by_cases whole : WholeChange old new
  · rw [changeMarks_of_whole whole, and_iff_left (.inl whole)]
    exact slotBit_iff
  · by_cases moved : new.counting = true ∧ old.phase ≠ new.phase
    · rw [changeMarks_of_phase whole moved, and_iff_left (.inr moved)]
      exact slotBit_iff
    · rw [changeMarks_of_neither whole moved]
      exact iff_of_false (not_zero_bit 32 _) fun h => h.2.elim whole moved

end

end Sys2Proof.Machine

/-! What a creation, a match and a miss make of one record (R36, R39 to R43). -/

namespace Sys2Proof.Machine

open Sys2Proof

section

variable {t : Tracker} {o : Observation} {p : Params} {r : Interferer}

/-! ## The observed phase (R28) -/

theorem Observation.phase_of_no_burst (quiet : o.burst = none) : o.phase t = none := by
  rw [Observation.phase, quiet]
  cases t.prediction <;> rfl

theorem Observation.phase_of_predicting (state : t.state = .locked ∨ t.state = .holdover) {reference start : AirTime}
    {length : Nat} (known : t.reference = some reference) (burst : o.burst = some (start, length)) :
    o.phase t = some (signedDiff reference start % (t.period : Int)).toNat := by
  rw [Observation.phase, Tracker.prediction_of_predicting state known, burst]
  rfl

/-! ## A new record (R36) -/

theorem clampInt_natCast {lo hi : Nat} (le : lo ≤ hi) (n : Nat) : clampInt lo hi (n : Int) = min (max n lo) hi := by
  unfold clampInt
  split_ifs <;> omega

theorem record_emission_cadenced (guess : o.guess = .cadenced) {start : AirTime} {length : Nat}
    (burst : o.burst = some (start, length)) (long : 1000 ≤ t.period) :
    (o.record t).emission = .cadenced (min (max length 500) (t.period - 500)) (o.phase t) := by
  have clamped : clampOn t.period (length : Int) = min (max length 500) (t.period - 500) := by
    rw [clampOn, clampInt_natCast (by omega)]
  simp only [Observation.record, guess, burst, Option.map_some, Option.getD_some, clamped]

/-! ## A match (R39 to R42) -/

theorem matched_of_pinned (pinned : r.life = .pinned) : r.matched p t o = { r with
    confidence := min 15 (r.confidence + 1), misses := 0, emission := r.emission.matchedPinned t o } := if_pos pinned

theorem matched_of_learner (other : r.life ≠ .pinned) : r.matched p t o = { r with
    confidence := min 15 (r.confidence + 1), misses := 0
    life := r.life.matched p.confirmCount (min 15 (r.confidence + 1)), span := o.span, level := o.level
    emission := r.emission.matched p t o } := if_neg other

theorem matched_counts : (r.matched p t o).confidence = min 15 (r.confidence + 1) ∧ (r.matched p t o).misses = 0 ∧
    (r.matched p t o).origin = r.origin := by
  by_cases pinned : r.life = .pinned
  · rw [matched_of_pinned pinned]
    exact ⟨rfl, rfl, rfl⟩
  · rw [matched_of_learner pinned]
    exact ⟨rfl, rfl, rfl⟩

theorem matched_life : (r.matched p t o).life =
    if (r.life = .tentative ∧ p.confirmCount ≤ min 15 (r.confidence + 1)) ∨ r.life = .fading then .confirmed else r.life := by
  by_cases pinned : r.life = .pinned
  · rw [matched_of_pinned pinned]
    simp [pinned]
  · rw [matched_of_learner pinned]
    cases life : r.life <;> simp [Life.matched]

theorem matchedPinned_withoutPhase (e : Emission) : (e.matchedPinned t o).withoutPhase = e.withoutPhase := by
  rcases e with ⟨on, _ | φ⟩ | d | d <;> rfl

theorem matchedPinned_phase {e : Emission} (phased : e.phase?.isSome = true) : (e.matchedPinned t o).phase? = e.phase? := by
  rcases e with ⟨on, _ | φ⟩ | d | d
  · cases phased
  all_goals rfl

/-- A duty moves a quarter of the way toward the observation, rounded up, and gives the kind (R40). -/
theorem emission_matched_duty {e : Emission} {d : Nat} (duty : e.duty = some d) : e.matched p t o =
    if p.steadyFloor ≤ (3 * d + o.busy + 3) / 4 then .steady ((3 * d + o.busy + 3) / 4)
    else .sporadic ((3 * d + o.busy + 3) / 4) := by
  cases e with
  | cadenced on φ => cases duty
  | steady d => cases duty; rfl
  | sporadic d => cases duty; rfl

theorem emission_matched_cadenced {on : Nat} {φ : Option Nat} {start : AirTime} {length : Nat}
    (burst : o.burst = some (start, length)) : (Emission.cadenced on φ).matched p t o =
      .cadenced (clampOn t.period ((on : Int) + part ((length : Int) - on) 4)) (movedPhase t.period φ (o.phase t)) := by
  rw [Emission.matched, burst]

theorem movedPhase_unseen (period : Nat) (held : Option Nat) : movedPhase period held none = held := by
  cases held <;> rfl

/-- Without a burst a CADENCED record keeps its emission. -/
theorem matched_of_no_burst {on : Nat} {φ : Option Nat} (emission : r.emission = .cadenced on φ) (quiet : o.burst = none) :
    (r.matched p t o).emission = r.emission := by
  rw [matched_emission, emission]
  split
  · cases φ with
    | none => rw [Emission.matchedPinned, Observation.phase_of_no_burst quiet]
    | some φ => rfl
  · rw [Emission.matched, quiet]

theorem matched_phase_of_unseen {on : Nat} {φ : Option Nat} (emission : r.emission = .cadenced on φ)
    (unseen : o.phase t = none) : (r.matched p t o).phase = φ := by
  rw [Interferer.phase_eq, matched_emission, emission]
  split
  · cases φ with
    | none => exact unseen
    | some φ => rfl
  · cases burst : o.burst with
    | none => rw [Emission.matched, burst]; rfl
    | some b =>
      rw [emission_matched_cadenced burst, unseen, movedPhase_unseen]
      rfl

theorem matched_phase_of_new {on observed : Nat} (emission : r.emission = .cadenced on none) {start : AirTime} {length : Nat}
    (burst : o.burst = some (start, length)) (seen : o.phase t = some observed) :
    (r.matched p t o).phase = some observed := by
  rw [Interferer.phase_eq, matched_emission, emission]
  split
  · exact seen
  · rw [emission_matched_cadenced burst, seen]
    rfl

theorem matched_phase_of_old {on f observed : Nat} (emission : r.emission = .cadenced on (some f)) {start : AirTime}
    {length : Nat} (burst : o.burst = some (start, length)) (seen : o.phase t = some observed) (other : r.life ≠ .pinned) :
    (r.matched p t o).phase =
      some (((f + (shortestStep t.period f observed).tdiv 4) % (t.period : Int)).toNat) := by
  rw [Interferer.phase_eq, matched_emission, emission, if_neg other, emission_matched_cadenced burst, seen]
  rfl

/-! ## A miss (R43) -/

theorem missed_of_tentative (life : r.life = .tentative) : r.missed p =
    if p.tentativeMisses ≤ min 255 (r.misses + 1) then none else some { r with misses := min 255 (r.misses + 1) } := by
  rw [Interferer.missed, life]

theorem missed_of_confirmed (life : r.life = .confirmed) : r.missed p =
    if p.fadeMisses ≤ min 255 (r.misses + 1) then
      if p.retireMisses ≤ min 255 (r.misses + 1) then none
      else some { r with misses := min 255 (r.misses + 1), life := .fading }
    else some { r with misses := min 255 (r.misses + 1) } := by
  rw [Interferer.missed, life]

theorem missed_of_fading (life : r.life = .fading) : r.missed p =
    if p.retireMisses ≤ min 255 (r.misses + 1) then none else some { r with misses := min 255 (r.misses + 1) } := by
  rw [Interferer.missed, life]

end

/-- Settles O50: the slot by the choices over the table, then each field of the record after a creation, a match and a miss. -/
theorem matchesAndMissesMoveTheRecord : Obligations.MatchesAndMissesMoveTheRecord := by
  unfold Obligations.MatchesAndMissesMoveTheRecord
  refine ⟨fun s i o => ?_, fun k j old new m n => ?_, fun t o => ?_, fun p t o r => ⟨?_, missed_of_tentative,
    missed_of_confirmed, missed_of_fading⟩⟩
  · intro candidate put evictable worse
    obtain ⟨unmatched, chosen⟩ := i.choose_cases s o
    obtain ⟨full, free⟩ := i.empty_cases
    obtain ⟨noEvictee, out⟩ := i.evictee_cases
    refine ⟨fun k r n slot here most => Intake.take_of_chosen (chosen k n here most) slot, fun none => ⟨fun k slot low =>
      Intake.take_of_empty (unmatched none) (free k slot low), fun occupied => ⟨fun k r here least => ?_, fun nothing => ?_⟩⟩⟩
    · exact Intake.take_of_evictee (unmatched none) (full occupied) (out k r (Intake.evictable?_iff.mpr here)
        fun j q other => least j q (Intake.evictable?_iff.mp other))
    · refine Intake.take_of_full (unmatched none) (full occupied) (noEvictee fun k => ?_)
      exact Option.eq_none_iff_forall_ne_some.mpr fun r here => nothing k r (Intake.evictable?_iff.mp here)
  · exact ⟨changeMarks_entered, changeMarks_noticed, slotBit_iff, slotBit_iff, rfl, rfl⟩
  · refine ⟨rfl, rfl, rfl, rfl, rfl, rfl, fun steady => ?_, fun sporadic => ?_, fun start length guess burst long => ?_⟩
    · rw [Observation.record, steady]
    · rw [Observation.record, sporadic]
    · intro on
      have emission := record_emission_cadenced guess burst long
      refine ⟨fun state => ?_, fun reference state known => ?_⟩
      · rw [emission, Observation.phase_of_not_predicting (Tracker.not_predicting state)]
      · rw [emission, Observation.phase_of_predicting state known burst]
  · obtain ⟨confidence, misses, origin⟩ := matched_counts (r := r) (p := p) (t := t) (o := o)
    refine ⟨confidence, misses, origin, matched_isCadenced, matched_life, fun pinned => ?_, fun other => ?_,
      fun on φ emission => ⟨matched_of_no_burst emission, fun start length burst => ?_⟩⟩
    · rw [matched_of_pinned pinned]
      exact ⟨rfl, rfl, matchedPinned_withoutPhase _, matchedPinned_phase⟩
    · rw [matched_of_learner other]
      exact ⟨rfl, rfl, fun d => emission_matched_duty⟩
    · intro aim most
      refine ⟨fun other => ?_, fun state => ?_, fun reference state known => ?_⟩
      · rw [matched_emission, if_neg other, emission, emission_matched_cadenced burst]
        rfl
      · exact matched_phase_of_unseen emission (Observation.phase_of_not_predicting (Tracker.not_predicting state))
      · intro observed
        have seen : o.phase t = some observed := Observation.phase_of_predicting state known burst
        refine ⟨?_, ?_⟩
        · rintro rfl
          exact matched_phase_of_new emission burst seen
        · rintro f rfl other
          exact matched_phase_of_old emission burst seen other

end Sys2Proof.Machine

/-! The miss account of a survey over all slots (R71), and what a survey leaves alone. -/

namespace Sys2Proof.Machine

open Sys2Proof

namespace Intake

variable {s : State} {v : Survey} {i : Intake} {k : Slot} {r : Interferer}

/-- The record is charged a miss (R71). -/
def due (s : State) (v : Survey) (i : Intake) (k : Slot) (r : Interferer) : Bool :=
  r.span.band == v.band && !i.isTaken k && r.life != .pinned && covered s.tracker v r

theorem due_iff (tracker : s.tracker.Ok) : due s v i k r = true ↔
    r.span.band = v.band ∧ (∀ x ∈ i.taken, x.1 ≠ k) ∧ r.life ≠ .pinned ∧ v.Covers s.tracker r := by
  simp only [due, Bool.and_eq_true, beq_iff_eq, Bool.not_eq_true', i.isTaken_eq_false, bne_iff_ne, covered_iff_Covers tracker,
    and_assoc]

theorem charge_of_empty (slot : i.table[k] = none) : charge s v i k = i := by
  rw [charge, slot]

theorem charge_of_other (slot : i.table[k] = some r) (other : due s v i k r = false) : charge s v i k = i := by
  rw [charge, slot]
  exact if_neg (ne_true_of_eq_false other)

theorem charge_of_left {q : Interferer} (slot : i.table[k] = some r) (charged : due s v i k r = true)
    (left : r.missed s.params = some q) :
    charge s v i k = { i with table := i.table.set k (some q), marks := i.marks.join (changeMarks k r q) } := by
  rw [charge, slot]
  refine (if_pos charged).trans ?_
  rw [left]

theorem charge_of_removed (slot : i.table[k] = some r) (charged : due s v i k r = true)
    (removed : r.missed s.params = none) : charge s v i k = { i with
      table := i.table.set k none, marks := i.marks.join (.both k)
      anchorGone := i.anchorGone || s.tracker.anchor == some k } := by
  rw [charge, slot]
  refine (if_pos charged).trans ?_
  rw [removed]

/-- The slot's record after the account. -/
def account (s : State) (v : Survey) (i : Intake) (k : Slot) : Option Interferer :=
  (i.table[k]).bind fun r => if due s v i k r then r.missed s.params else some r

theorem account_of_empty (slot : i.table[k] = none) : account s v i k = none := by
  rw [account, slot]
  rfl

theorem account_of_due (slot : i.table[k] = some r) (charged : due s v i k r = true) :
    account s v i k = r.missed s.params := by
  rw [account, slot]
  exact if_pos charged

theorem account_of_other (slot : i.table[k] = some r) (other : due s v i k r = false) : account s v i k = some r := by
  rw [account, slot]
  exact if_neg (ne_true_of_eq_false other)

/-- The slot's record fades or is removed. -/
def Fades (s : State) (v : Survey) (i : Intake) (k : Slot) : Prop :=
  ∃ r, i.table[k] = some r ∧ due s v i k r = true ∧ ∀ q, r.missed s.params = some q → q.life ≠ r.life

/-- The slot's record is removed. -/
def Removed (s : State) (v : Survey) (i : Intake) (k : Slot) : Prop :=
  ∃ r, i.table[k] = some r ∧ due s v i k r = true ∧ r.missed s.params = none

/-- What charging some slots makes of an intake. -/
structure Charged (s : State) (v : Survey) (ks : List Slot) (i j : Intake) : Prop where
  table : ∀ k, j.table[k] = if k ∈ ks then account s v i k else i.table[k]
  noticed : ∀ k, j.marks.noticed.getLsbD k.val = true ↔ i.marks.noticed.getLsbD k.val = true ∨ (k ∈ ks ∧ Fades s v i k)
  entered : ∀ k, j.marks.entered.getLsbD k.val = true ↔ i.marks.entered.getLsbD k.val = true ∨ (k ∈ ks ∧ Fades s v i k)
  gone : j.anchorGone = true ↔ i.anchorGone = true ∨ ∃ k ∈ ks, s.tracker.anchor = some k ∧ Removed s v i k
  taken : j.taken = i.taken
  dropped : j.dropped = i.dropped

theorem Charged.nothing : Charged s v [] i i := by
  constructor <;> simp

/-- A slot that is not charged. -/
theorem Charged.of_same (same : account s v i k = i.table[k]) (lives : ¬Fades s v i k) : Charged s v [k] i i := by
  have stays : ¬Removed s v i k := fun ⟨r, slot, charged, removed⟩ => lives ⟨r, slot, charged, by simp [removed]⟩
  refine ⟨fun j => ?_, fun j => ?_, fun j => ?_, ?_, rfl, rfl⟩
  · split
    · next here => rw [List.mem_singleton.mp here, same]
    · rfl
  · simp only [List.mem_singleton]
    exact ⟨.inl, fun h => h.resolve_right fun ⟨here, fades⟩ => lives (here ▸ fades)⟩
  · simp only [List.mem_singleton]
    exact ⟨.inl, fun h => h.resolve_right fun ⟨here, fades⟩ => lives (here ▸ fades)⟩
  · simp only [List.mem_singleton, exists_eq_left]
    exact ⟨.inl, fun h => h.resolve_right fun ⟨_, removed⟩ => stays removed⟩

/-- A miss that leaves the record changes its misses and its life state, and nothing else. -/
theorem wholeChange_missed {p : Params} {q : Interferer} (left : r.missed p = some q) : WholeChange r q ↔ q.life ≠ r.life := by
  obtain ⟨m, life, -, rfl⟩ := missed_eq left
  simp [WholeChange, Interferer.phase, ne_comm]

theorem noticed_missed {p : Params} {q : Interferer} (left : r.missed p = some q) {j : Slot} :
    (changeMarks k r q).noticed.getLsbD j.val = true ↔ j = k ∧ q.life ≠ r.life := by
  have phase : r.phase = q.phase := (missed_phase left).symm
  rw [changeMarks_noticed, wholeChange_missed left]
  simp [phase]

theorem entered_missed {p : Params} {q : Interferer} (left : r.missed p = some q) {j : Slot} :
    (changeMarks k r q).entered.getLsbD j.val = true ↔ j = k ∧ q.life ≠ r.life := by
  rw [changeMarks_entered, wholeChange_missed left]

theorem charge_charged (s : State) (v : Survey) (i : Intake) (k : Slot) : Charged s v [k] i (charge s v i k) := by
  cases slot : i.table[k] with
  | none =>
    rw [charge_of_empty slot]
    exact .of_same ((account_of_empty slot).trans slot.symm) fun ⟨r, held, _⟩ => nomatch slot.symm.trans held
  | some r =>
    cases charged : due s v i k r with
    | false =>
      rw [charge_of_other slot charged]
      refine .of_same ((account_of_other slot charged).trans slot.symm) fun ⟨q, held, other, _⟩ => ?_
      obtain rfl : r = q := Option.some.inj (slot.symm.trans held)
      rw [charged] at other
      exact nomatch other
    | true =>
      have unique : ∀ {P : Interferer → Prop}, (∃ q, i.table[k] = some q ∧ due s v i k q = true ∧ P q) ↔ P r := by
        refine ⟨fun ⟨q, held, _, holds⟩ => ?_, fun holds => ⟨r, slot, charged, holds⟩⟩
        obtain rfl : r = q := Option.some.inj (slot.symm.trans held)
        exact holds
      have fades : Fades s v i k ↔ ∀ q, r.missed s.params = some q → q.life ≠ r.life :=
        unique (P := fun r => ∀ q, r.missed s.params = some q → q.life ≠ r.life)
      have removed_iff : Removed s v i k ↔ r.missed s.params = none := unique (P := fun r => r.missed s.params = none)
      have due_account : account s v i k = r.missed s.params := account_of_due slot charged
      cases missed : r.missed s.params with
      | some q =>
        rw [charge_of_left slot charged missed]
        rw [missed] at fades removed_iff due_account
        have moves : Fades s v i k ↔ q.life ≠ r.life := fades.trans (by simp)
        refine ⟨fun j => ?_, fun j => ?_, fun j => ?_, ?_, rfl, rfl⟩
        · simp only [slot_set, List.mem_singleton]
          split
          · next here => rw [here, due_account]
          · rfl
        · simp only [Marks.join, BitVec.getLsbD_or, Bool.or_eq_true, noticed_missed missed, List.mem_singleton]
          exact or_congr_right (and_congr_right fun here => by rw [here, moves])
        · simp only [Marks.join, BitVec.getLsbD_or, Bool.or_eq_true, entered_missed missed, List.mem_singleton]
          exact or_congr_right (and_congr_right fun here => by rw [here, moves])
        · simp [removed_iff]
      | none =>
        rw [charge_of_removed slot charged missed]
        rw [missed] at fades removed_iff due_account
        have moves : Fades s v i k := fades.mpr nofun
        have removed : Removed s v i k := removed_iff.mpr rfl
        refine ⟨fun j => ?_, fun j => ?_, fun j => ?_, ?_, rfl, rfl⟩
        · simp only [slot_set, List.mem_singleton]
          split
          · next here => rw [here, due_account]
          · rfl
        · simp only [Marks.join, Marks.both, BitVec.getLsbD_or, Bool.or_eq_true, slotBit_iff, List.mem_singleton]
          exact or_congr_right ⟨fun here => ⟨here, here ▸ moves⟩, And.left⟩
        · simp only [Marks.join, Marks.both, BitVec.getLsbD_or, Bool.or_eq_true, slotBit_iff, List.mem_singleton]
          exact or_congr_right ⟨fun here => ⟨here, here ▸ moves⟩, And.left⟩
        · simp [removed]

/-- The account of a slot reads that slot's record and what was taken. -/
theorem account_congr {j : Intake} (slot : j.table[k] = i.table[k]) (taken : j.taken = i.taken) :
    account s v j k = account s v i k ∧ (Fades s v j k ↔ Fades s v i k) ∧ (Removed s v j k ↔ Removed s v i k) := by
  have same : due s v j k = due s v i k := by
    funext r
    simp [due, isTaken, taken]
  simp only [account, Fades, Removed, slot, same, and_self]

theorem Charged.cons {j l : Intake} {ks : List Slot} (fresh : k ∉ ks) (first : Charged s v [k] i j)
    (rest : Charged s v ks j l) : Charged s v (k :: ks) i l := by
  have apart : ∀ m ∈ ks, account s v j m = account s v i m ∧ (Fades s v j m ↔ Fades s v i m) ∧
      (Removed s v j m ↔ Removed s v i m) := by
    intro m mem
    have other : m ∉ [k] := by
      rw [List.mem_singleton]
      rintro rfl
      exact fresh mem
    exact account_congr ((first.table m).trans (if_neg other)) first.taken
  have fades : ∀ m, (m ∈ ks ∧ Fades s v j m) ↔ (m ∈ ks ∧ Fades s v i m) := fun m => and_congr_right fun mem => (apart m mem).2.1
  refine ⟨fun m => ?_, fun m => ?_, fun m => ?_, ?_, rest.taken.trans first.taken, rest.dropped.trans first.dropped⟩
  · rw [rest.table m, first.table m]
    by_cases later : m ∈ ks
    · rw [if_pos later, if_pos (List.mem_cons_of_mem _ later), (apart m later).1]
    · rw [if_neg later]
      simp [later]
  · rw [rest.noticed, first.noticed, fades, List.mem_singleton, List.mem_cons, or_assoc, or_and_right]
  · rw [rest.entered, first.entered, fades, List.mem_singleton, List.mem_cons, or_assoc, or_and_right]
  · have removed : (∃ m ∈ ks, s.tracker.anchor = some m ∧ Removed s v j m) ↔
        ∃ m ∈ ks, s.tracker.anchor = some m ∧ Removed s v i m :=
      exists_congr fun m => and_congr_right fun mem => and_congr_right fun _ => (apart m mem).2.2
    rw [rest.gone, first.gone, removed]
    simp only [List.mem_cons, List.not_mem_nil, exists_eq_or_imp, or_assoc, false_and, exists_false, false_or]

theorem foldl_charged (s : State) (v : Survey) (ks : List Slot) (distinct : ks.Nodup) (i : Intake) :
    Charged s v ks i (ks.foldl (charge s v) i) := by
  induction ks generalizing i with
  | nil => exact .nothing
  | cons k ks ih =>
    obtain ⟨fresh, distinct⟩ := List.nodup_cons.mp distinct
    exact .cons fresh (charge_charged s v i k) (ih distinct _)

end Intake

end Sys2Proof.Machine

/-! A survey as one event on a settled part (R59 to R76): the claim, the anchor notice and the report. -/

namespace Sys2Proof.Machine

open Sys2Proof

/-! ## The end of a claim (R26, R27, R31) -/

/-- The notices of a claim, in slot order. -/
def Marks.notices (m : Marks) : List Handed := ((List.finRange 32).filter fun k => m.noticed.getLsbD k.val).map .changeNotice

/-- What the end of a claim makes of the tracker, and the work of its change of cadence state, when the anchor is gone or not. -/
structure Tracker.Claimed (t : Tracker) (table : Vector (Option Interferer) 32) (gone : Bool) (u : Tracker)
    (cadence : List Handed) : Prop where
  kept : gone = false → u = t ∧ cadence = []
  moved : gone = true → ∀ (j : Slot) (q : Interferer), table[j] = some q → q.isCadenced = true →
    (∀ (k : Slot) (r : Interferer), k < j → table[k] = some r → r.isCadenced = false) →
    u = { t with
      anchor := some j, outliers := 0, anchorMisses := 0
      anchorOffset := if t.predicting then q.phase.getD 0 else 0 } ∧ cadence = []
  freed : gone = true → (∀ (k : Slot) (r : Interferer), table[k] = some r → r.isCadenced = false) →
    u = { Tracker.reset with period := t.period } ∧ cadence = [.cadenceStateNotice, .attentionSetRequest .cadenceChange]
  predicts : u.anchor ≠ none → u.prediction = t.prediction

section

variable {s : State} (settled : s.resets = [])

include settled

/-- With no soft reset in progress a claim moves the tracker, the set and the handed work, and leaves the table as it is. -/
theorem State.finishClaim_claimed (gone : Bool) (m : Marks) : ∃ u cadence, s.finishClaim gone m = { s with
    tracker := u, changed := s.changed ||| m.entered, handed := s.handed ++ cadence ++ m.notices } ∧
      s.tracker.Claimed s.table gone u cadence := by
  cases gone with
  | false =>
    refine ⟨s.tracker, [], ?_, fun _ => ⟨rfl, rfl⟩, nofun, nofun, fun _ => rfl⟩
    rw [State.finishClaim, if_neg nofun, State.completeClaim_of_none s settled, List.append_nil]
    rfl
  | true =>
    have finish : s.finishClaim true m = s.anchorNotice.1.completeClaim (m.join s.anchorNotice.2) := if_pos rfl
    cases lowest : s.lowestCadenced with
    | some j =>
      refine ⟨{ s.tracker with
        anchor := some j, outliers := 0, anchorMisses := 0
        anchorOffset := if s.tracker.predicting then (s.phaseAt j).getD 0 else 0 }, [], ?_, nofun,
        fun _ k q slot cadenced least => ?_, fun _ none => ?_, fun _ => rfl⟩
      · rw [finish, State.anchorNotice, lowest]
        dsimp only
        rw [Marks.join_none, State.completeClaim_of_none _ (by exact settled), List.append_nil]
        rfl
      · obtain rfl : j = k := Option.some.inj (lowest.symm.trans (State.lowestCadenced_of_least slot cadenced least))
        have phase : s.phaseAt j = q.phase := congrArg (·.bind (·.phase)) slot
        exact ⟨by rw [phase], rfl⟩
      · exact nomatch lowest.symm.trans (State.lowestCadenced_of_none none)
    | none =>
      have bare : ∀ (k : Slot) (r : Interferer), s.table[k] = some r → r.isCadenced = false := by
        intro k r slot
        simpa [slot] using List.find?_eq_none.mp lowest k (List.mem_finRange k)
      have marks : s.phaseMarks = .none := State.phaseMarks_of_none bare
      have table : s.removePhases = s := congrArg (fun table => { s with table := table }) (State.removePhases_of_none bare)
      refine ⟨{ Tracker.reset with period := s.tracker.period }, [.cadenceStateNotice, .attentionSetRequest .cadenceChange], ?_,
        nofun, fun _ k q slot cadenced _ => ?_, fun _ _ => ⟨rfl, rfl⟩, fun anchor => absurd rfl anchor⟩
      · rw [finish, State.anchorNotice, lowest]
        dsimp only
        rw [State.enterFree, marks, table, Marks.join_none, State.notifyCadence_of_none (by exact settled),
          State.completeClaim_of_none _ (by exact settled)]
        rfl
      · exact absurd cadenced (by simp [bare k q slot])

end

/-! ## The report (R73 to R75) -/

theorem surveyReport_congr {s u : State} (v : Survey) (i : Intake) (tracker : u.tracker = s.tracker)
    (table : u.table = s.table) : surveyReport u v i = surveyReport s v i := by
  rw [surveyReport, tracker, table]
  rfl

section

variable {s : State} (settled : s.resets = [])

include settled

theorem State.handReport_of_none (x : Option Handed) : s.handReport x = { s with handed := s.handed ++ x.toList } := by
  cases x with
  | none => simp [State.handReport]
  | some h => exact State.hand_of_none s settled _ _

theorem State.surveyClaim_of_none (i : Intake) : s.surveyClaim i = State.finishClaim { s with
    table := i.table, handed := s.handed ++ List.replicate i.dropped (.attentionSetRequest .tableFull) }
    i.anchorGone i.marks := by
  rw [State.surveyClaim, State.requestFull_of_none _ (by exact settled)]

/-- The claim of an intake with its report. -/
theorem State.claim_report (v : Survey) (i : Intake) : ∃ u cadence,
    (s.surveyClaim i).handReport (surveyReport (s.surveyClaim i) v i) = { s with
      table := i.table, tracker := u, changed := s.changed ||| i.marks.entered
      handed := s.handed ++ List.replicate i.dropped (.attentionSetRequest .tableFull) ++ cadence ++ i.marks.notices ++
        (surveyReport { s with table := i.table, tracker := u } v i).toList } ∧
      s.tracker.Claimed i.table i.anchorGone u cadence := by
  obtain ⟨u, cadence, claim, claimed⟩ := State.finishClaim_claimed
    (s := { s with table := i.table, handed := s.handed ++ List.replicate i.dropped (.attentionSetRequest .tableFull) })
    (by exact settled) i.anchorGone i.marks
  refine ⟨u, cadence, ?_, claimed⟩
  rw [State.surveyClaim_of_none settled, claim, State.handReport_of_none (by exact settled)]
  rfl

end

/-! ## The event (R59 to R61) -/

theorem intake_congr {s u : State} (v : Survey) (params : u.params = s.params) (tracker : u.tracker = s.tracker)
    (table : u.table = s.table) : intake u v = intake s v := by
  rw [intake, intake, Intake.take_congr params tracker, Intake.charge_congr v params tracker, params, table]

/-- The part once the intake has read a survey: the lane's holder empty and the ages up to date. -/
def State.swept (s : State) (l : Lane) (v : Survey) : State := { s with
  links := s.links.set l { s.links.get l with holder := none }, coverage := coverageAfter v s.coverage }

theorem State.intake_swept (s : State) (l : Lane) (v : Survey) : intake (s.swept l v) v = intake s v :=
  intake_congr v (by rw [State.swept]) (by rw [State.swept]) (by rw [State.swept])

theorem State.acceptSurvey_of_none {s : State} (settled : s.resets = []) {v : Survey} {t : State}
    (read : { s with coverage := coverageAfter v s.coverage } = t) : s.acceptSurvey v =
      (t.surveyClaim (intake t v)).handReport (surveyReport (t.surveyClaim (intake t v)) v (intake t v)) := by
  have still : t.resets = [] := by rw [← read]; exact settled
  unfold State.acceptSurvey
  rw [read]
  exact if_neg (by rw [State.crossesReset_of_none _ still]; nofun)

section

variable {s : State} {l : Lane} {m : Held} (running : s.resetN = true) (settled : s.resets = [])
  (lane : s.surveyLane = some l) (holder : (s.links.get l).holder = some m)

include running settled lane holder

theorem exec_survey_held : exec .survey s = .next (match s.surveyOf? l m.body with
    | some v => (s.emptyHolder l).acceptSurvey v
    | none => (s.emptyHolder l).sendOut .svi l (.nak .malformed InKind.survey.byte)) := by
  have run : exec .survey s = event s (fun s =>
    match s.surveyLane with
    | some l => s.takeSurvey l
    | none => s) := rfl
  rw [run, event_of_running s _ running, lane]
  dsimp only
  rw [State.takeSurvey, State.heldBody_of_none settled, holder]
  rfl

/-- A survey that fails a check is answered with a NAK. -/
theorem exec_survey_of_bad (bad : s.surveyOf? l m.body = none) (room : (s.links.get l).outbound.length < 16) :
    exec .survey s = .next { s with
      links := s.links.set l { s.links.get l with
        holder := none, outbound := (s.links.get l).outbound ++ [.nak .malformed 0x03] } } := by
  rw [exec_survey_held running settled lane holder, bad]
  exact congrArg _ (State.emptyHolder_sendOut settled room _ _)

/-- An accepted survey: the claim of the intake, then its report. -/
theorem exec_survey_of_good {v : Survey} (good : s.surveyOf? l m.body = some v) : ∃ u cadence,
    exec .survey s = .next { s.swept l v with
      table := (intake s v).table, tracker := u, changed := s.changed ||| (intake s v).marks.entered
      handed := s.handed ++ List.replicate (intake s v).dropped (.attentionSetRequest .tableFull) ++ cadence ++
        (intake s v).marks.notices ++
        (surveyReport { s with table := (intake s v).table, tracker := u } v (intake s v)).toList } ∧
      s.tracker.Claimed (intake s v).table (intake s v).anchorGone u cadence := by
  have run : exec .survey s = .next ((s.emptyHolder l).acceptSurvey v) := by
    rw [exec_survey_held running settled lane holder, good]
  have accept : (s.emptyHolder l).acceptSurvey v =
      ((s.swept l v).surveyClaim (intake s v)).handReport
        (surveyReport ((s.swept l v).surveyClaim (intake s v)) v (intake s v)) := by
    rw [State.acceptSurvey_of_none (by exact settled) (t := s.swept l v) rfl, s.intake_swept]
  obtain ⟨u, cadence, claim, claimed⟩ := State.claim_report (s := s.swept l v) (by simpa only [State.swept] using settled) v (intake s v)
  refine ⟨u, cadence, ?_, by simpa only [State.swept] using claimed⟩
  have report : surveyReport { s.swept l v with table := (intake s v).table, tracker := u } v (intake s v) =
      surveyReport { s with table := (intake s v).table, tracker := u } v (intake s v) := surveyReport_congr v _ rfl rfl
  rw [run, accept, claim, report]
  simp only [State.swept]

end

end Sys2Proof.Machine

/-! What a survey leaves alone, and a survey of one reading (R63 to R72). -/

namespace Sys2Proof.Machine

open Sys2Proof

/-! ## Records of the other band -/

theorem observation_band (p : Params) {v : Survey} (valid : v.valid = true) {o : Observation} (mem : o ∈ observations p v) :
    o.span.band = v.band := by
  rw [observations_eq] at mem
  obtain ⟨part, found, rfl⟩ := List.mem_map.mp mem
  have filled := parts_ne_nil found
  obtain ⟨x, rest, rfl⟩ := List.exists_cons_of_ne_nil filled
  have span := (observe_describes p v filled).span x rfl
  rw [span]
  exact (v.reading_ok valid (mem_parts found (List.mem_cons_self ..)).1).2.1

theorem coverageAfter_slot (v : Survey) (ages : Vector Nat 48) (i : Fin 48) : (coverageAfter v ages)[i] =
    if ∃ r ∈ v.readings, r.slice = i.val then 0
    else if Band.ofSlice i.val = v.band then min 255 (ages[i] + 1) else ages[i] := by
  have slot : (coverageAfter v ages)[i] = if v.readings.any (fun r => r.slice == i.val) then 0
      else if Band.ofSlice i.val == v.band then min 255 (ages.get i + 1) else ages.get i := by
    rw [coverageAfter, Fin.getElem_fin, Vector.getElem_ofFn]
  rw [slot]
  simp only [List.any_eq_true, beq_iff_eq]
  rfl

namespace Intake

variable {s : State} {v : Survey} {i : Intake} {k : Slot} {r : Interferer} {o : Observation}

/-- The intake before the first observation. -/
def start (s : State) : Intake := ⟨s.table, .none, [], 0, false⟩

theorem intake_eq (s : State) (v : Survey) :
    intake s v = (List.finRange 32).foldl (charge s v) ((observations s.params v).foldl (take s) (start s)) := rfl

/-- An observation leaves a record of the other band that is not TENTATIVE as it is. -/
theorem take_keeps (slot : i.table[k] = some r) (band : r.span.band ≠ o.span.band) (kept : r.life ≠ .tentative) :
    (take s i o).table[k] = some r := by
  cases chosen : i.choose s o with
  | some j =>
    obtain ⟨n, found⟩ := candidate_of_choose chosen
    obtain ⟨q, held, same, -⟩ := (i.candidate_iff s o j n).mp found
    have other : k ≠ j := by
      rintro rfl
      obtain rfl : r = q := Option.some.inj (slot.symm.trans held)
      exact band same
    rw [take_of_chosen chosen held, slot_set, if_neg other, slot]
  | none =>
    cases free : i.empty with
    | some j =>
      have other : k ≠ j := by
        rintro rfl
        exact nomatch slot.symm.trans (of_empty free)
      rw [take_of_empty chosen free, create, slot_set, if_neg other, slot]
    | none =>
      cases out : i.evictee with
      | some j =>
        obtain ⟨q, held, tentative, -⟩ := of_evictee out
        have other : k ≠ j := by
          rintro rfl
          obtain rfl : r = q := Option.some.inj (slot.symm.trans held)
          exact kept tentative
        rw [take_of_evictee chosen free out, create, slot_set, if_neg other, slot]
      | none => rw [take_of_full chosen free out, slot]

/-- A survey leaves a record of the other band that is not TENTATIVE as it is. -/
theorem intake_keeps (valid : v.valid = true) (slot : s.table[k] = some r) (band : r.span.band ≠ v.band)
    (kept : r.life ≠ .tentative) : (intake s v).table[k] = some r := by
  have taken : ((observations s.params v).foldl (take s) (start s)).table[k] = some r :=
    List.foldlRecOn (motive := fun i : Intake => i.table[k] = some r) _ _ slot fun i held o mem =>
      take_keeps held (observation_band s.params valid mem ▸ band) kept
  have charged := foldl_charged s v (List.finRange 32) (List.nodup_finRange 32)
    ((observations s.params v).foldl (take s) (start s))
  rw [intake_eq, charged.table k, if_pos (List.mem_finRange k)]
  exact account_of_other taken (by simp [due, band])

/-! ## A survey that charges no miss -/

theorem foldl_charge_of_idle (idle : ∀ (k : Slot) (r : Interferer), i.table[k] = some r → due s v i k r = false) :
    (List.finRange 32).foldl (charge s v) i = i := by
  have each : ∀ k, charge s v i k = i := by
    intro k
    cases slot : i.table[k] with
    | none => exact charge_of_empty slot
    | some r => exact charge_of_other slot (idle k r slot)
  induction List.finRange 32 with
  | nil => rfl
  | cons k ks ih => rw [List.foldl_cons, each, ih]

end Intake

/-! ## One reading -/

section

variable {s : State} {v : Survey} {x : Reading} (single : v.readings = [x])

/-- The observation of one reading alone. -/
theorem observe_single (p : Params) (v : Survey) (x : Reading) : observe p v [x] = {
    span := ⟨x.slice, 1⟩, level := x.level, busy := x.busy
    burst := x.burst.map fun b => (after v.start b.1, b.2 - b.1)
    guess := guessKind p.steadyFloor v x.burst.isSome x.busy } := by
  obtain ⟨slice, level, busy, burst⟩ := x
  cases burst <;> simp [observe, greatest, pieceBurst]

include single

theorem observations_of_hot {p : Params} (hot : p.detectLevel ≤ x.level) : observations p v = [observe p v [x]] := by
  rw [observations, single, List.filter_cons_of_pos (by simpa using hot)]
  cases v.band <;> rfl

theorem observations_of_cold {p : Params} (cold : ¬p.detectLevel ≤ x.level) : observations p v = [] := by
  rw [observations, single, List.filter_cons_of_neg (by simpa using cold)]
  rfl

/-- A record is covered only when the slice read is one of its own. -/
theorem covered_slice {t : Tracker} {r : Interferer} (covers : covered t v r = true) :
    r.span.first ≤ x.slice ∧ x.slice < r.span.first + r.span.count := by
  simp only [covered, single, Bool.and_eq_true, List.any_cons, List.any_nil, Bool.or_false, decide_eq_true_eq] at covers
  exact covers.1

theorem intake_of_hot (hot : s.params.detectLevel ≤ x.level) {i : Intake}
    (take : Intake.take s (Intake.start s) (observe s.params v [x]) = i)
    (idle : ∀ (k : Slot) (r : Interferer), i.table[k] = some r → Intake.due s v i k r = false) : intake s v = i := by
  rw [Intake.intake_eq, observations_of_hot single hot, List.foldl_cons, List.foldl_nil, take]
  exact Intake.foldl_charge_of_idle idle

theorem intake_of_cold (cold : ¬s.params.detectLevel ≤ x.level)
    (idle : ∀ (k : Slot) (r : Interferer), s.table[k] = some r → Intake.due s v (Intake.start s) k r = false) :
    intake s v = Intake.start s := by
  rw [Intake.intake_eq, observations_of_cold single cold]
  exact Intake.foldl_charge_of_idle idle

end

theorem Span.overlaps_single {a : Span} {n : Nat} : a.overlaps ⟨n, 1⟩ = true ↔ a.first ≤ n ∧ n < a.first + a.count := by
  unfold Span.overlaps Span.overlap
  rw [decide_eq_true_iff]
  dsimp only
  omega

theorem Span.overlap_single {a : Span} {n : Nat} (low : a.first ≤ n) (high : n < a.first + a.count) :
    a.overlap ⟨n, 1⟩ = 1 := by
  simp only [Span.overlap]
  omega

/-! ## The report (R73 to R75) -/

section

variable {s : State} {v : Survey} {i : Intake} {k : Slot}

theorem surveyReport_of_taken (anchor : s.tracker.anchor = some k) {x : Slot × Observation}
    (found : i.taken.find? (fun x => x.1 == k) = some x) :
    surveyReport s v i = x.2.burst.map fun b => .riseReport k b.1 := by
  rw [surveyReport, anchor]
  dsimp only
  rw [found]

theorem surveyReport_of_untaken (anchor : s.tracker.anchor = some k) (untaken : i.taken.find? (fun x => x.1 == k) = none)
    {r : Interferer} (slot : s.table[k] = some r) :
    surveyReport s v i = if covered s.tracker v r then some (.anchorMissReport k) else none := by
  rw [surveyReport, anchor]
  dsimp only
  rw [untaken]
  dsimp only
  rw [slot]

theorem surveyReport_of_unanchored (anchor : s.tracker.anchor = none) {x : Slot × Observation}
    (found : i.taken.find? (fun x => x.2.guess == .cadenced) = some x) :
    surveyReport s v i = x.2.burst.map fun b => .riseReport x.1 b.1 := by
  rw [surveyReport, anchor]
  dsimp only
  rw [found]

theorem surveyReport_of_nothing (anchor : s.tracker.anchor = none)
    (nothing : i.taken.find? (fun x => x.2.guess == .cadenced) = none) : surveyReport s v i = none := by
  rw [surveyReport, anchor]
  dsimp only
  rw [nothing]

end

/-! ## A survey after which the anchor is still in the table -/

theorem exec_survey_of_kept {s : State} {l : Lane} {m : Held} {v : Survey} {i : Intake} (running : s.resetN = true)
    (settled : s.resets = []) (lane : s.surveyLane = some l) (holder : (s.links.get l).holder = some m)
    (good : s.surveyOf? l m.body = some v) (intake_eq : intake s v = i) (kept : i.anchorGone = false) :
    exec .survey s = .next { s.swept l v with
      table := i.table, changed := s.changed ||| i.marks.entered
      handed := s.handed ++ List.replicate i.dropped (.attentionSetRequest .tableFull) ++ i.marks.notices ++
        (surveyReport { s with table := i.table } v i).toList } := by
  obtain ⟨u, cadence, run, claimed⟩ := exec_survey_of_good running settled lane holder good
  rw [intake_eq] at run claimed
  obtain ⟨rfl, rfl⟩ := claimed.kept kept
  rw [run, List.append_nil]
  simp only [State.swept]

theorem Marks.none_join (m : Marks) : Marks.none.join m = m := by simp [Marks.join, Marks.none]

theorem Marks.notices_both (k : Slot) : (Marks.both k).notices = [.changeNotice k] := by
  rw [Marks.notices, Marks.both, noticed_slotBit]
  rfl

theorem Marks.notices_none : Marks.none.notices = [] := by
  rw [Marks.notices, Marks.none, noticed_zero]
  rfl

end Sys2Proof.Machine

/-! SURVEY in full: coverage, observations, the miss account and the report (R59 to R76). -/

namespace Sys2Proof.Machine

open Sys2Proof

/-! ## The report against the intake (R73 to R75) -/

theorem find?_of_first {α : Type} {p : α → Bool} {pre post : List α} {x : α} (yes : p x = true)
    (before : ∀ y ∈ pre, p y = false) : (pre ++ x :: post).find? p = some x :=
  List.find?_eq_some_iff_append.mpr ⟨yes, pre, post, rfl, by simpa using before⟩

theorem covered_congr {t u : Tracker} (v : Survey) (r : Interferer) (same : u.prediction = t.prediction) :
    covered u v r = covered t v r := by
  rw [covered, covered, same]

section

variable {s : State} {v : Survey} {i : Intake} {pre post : List (Slot × Observation)} {k : Slot} {o : Observation}
  {start : AirTime} {length : Nat}

theorem surveyReport_of_anchor_first (anchor : s.tracker.anchor = some k) (taken : i.taken = pre ++ (k, o) :: post)
    (burst : o.burst = some (start, length)) (first : ∀ x ∈ pre, x.1 ≠ k) :
    surveyReport s v i = some (.riseReport k start) := by
  have found : i.taken.find? (fun x => x.1 == k) = some (k, o) := by
    rw [taken]
    exact find?_of_first (by simp) fun y mem => by simpa using first y mem
  rw [surveyReport_of_taken anchor found, burst]
  rfl

theorem surveyReport_of_cadenced_first (anchor : s.tracker.anchor = none) (taken : i.taken = pre ++ (k, o) :: post)
    (burst : o.burst = some (start, length)) (guess : o.guess = .cadenced) (first : ∀ x ∈ pre, x.2.guess ≠ .cadenced) :
    surveyReport s v i = some (.riseReport k start) := by
  have found : i.taken.find? (fun x => x.2.guess == .cadenced) = some (k, o) := by
    rw [taken]
    exact find?_of_first (by simp [guess]) fun y mem => by simpa using first y mem
  rw [surveyReport_of_unanchored anchor found, burst]
  rfl

end

/-- The first part of O49: the checks, coverage, and the records of the other band. -/
theorem survey_updates {s : State} {l : Lane} {m : Held} {v : Survey} (running : s.resetN = true) (settled : s.resets = [])
    (lane : s.surveyLane = some l) (holder : (s.links.get l).holder = some m) (good : s.surveyOf? l m.body = some v) :
    ∃ t, exec .survey s = .next t ∧
      t = { s with
        links := s.links.set l { s.links.get l with holder := none }
        coverage := t.coverage, table := t.table, tracker := t.tracker, changed := t.changed, handed := t.handed } ∧
      (∀ i : Fin 48, t.coverage[i] =
        if ∃ r ∈ v.readings, r.slice = i.val then 0
        else if Band.ofSlice i.val = v.band then min 255 (s.coverage[i] + 1) else s.coverage[i]) ∧
      ∀ (k : Slot) (r : Interferer), s.table[k] = some r → r.span.band ≠ v.band → r.isCadenced = false →
        r.life ≠ .tentative → t.table[k] = some r := by
  obtain ⟨u, cadence, run, -⟩ := exec_survey_of_good running settled lane holder good
  have valid : v.valid = true := s.surveyOf?_valid good
  have keeps : ∀ (k : Slot) (r : Interferer), s.table[k] = some r → r.span.band ≠ v.band → r.isCadenced = false →
      r.life ≠ .tentative → (intake s v).table[k] = some r :=
    fun k r slot band _ kept => Intake.intake_keeps valid slot band kept
  simp only [State.swept] at run
  generalize intake s v = i at run keeps
  exact ⟨_, run, rfl, coverageAfter_slot v s.coverage, keeps⟩

/-- The third part of O49: the miss account, the anchor notice and the report. -/
theorem survey_accounts {s : State} {l : Lane} {m : Held} {v : Survey} (running : s.resetN = true) (settled : s.resets = [])
    (lane : s.surveyLane = some l) (holder : (s.links.get l).holder = some m)
    (good : s.surveyOf? l m.body = some v) :
    let i := (observations s.params v).foldl (Intake.take s) ⟨s.table, .none, [], 0, false⟩
    let gone := i.anchorGone = true ∨ ∃ k ∈ List.finRange 32, s.tracker.anchor = some k ∧ Intake.Removed s v i k
    ∃ (t : State) (noticed : Slot → Bool) (cadence report : List Handed), exec .survey s = .next t ∧
      (∀ k : Slot, t.table[k] = Intake.account s v i k) ∧
      (∀ k : Slot, t.changed.getLsbD k.val = true ↔
        s.changed.getLsbD k.val = true ∨ i.marks.entered.getLsbD k.val = true ∨ Intake.Fades s v i k) ∧
      (∀ k : Slot, noticed k = true ↔ i.marks.noticed.getLsbD k.val = true ∨ Intake.Fades s v i k) ∧
      t.handed = s.handed ++ List.replicate i.dropped (.attentionSetRequest .tableFull) ++ cadence ++
        ((List.finRange 32).filter noticed).map .changeNotice ++ report ∧
      (∃ b, (b = true ↔ gone) ∧ s.tracker.Claimed t.table b t.tracker cadence) ∧
      ∃ j : Intake, j.taken = i.taken ∧ report = (surveyReport t v j).toList := by
  intro i gone
  obtain ⟨u, cadence, run, claimed⟩ := exec_survey_of_good running settled lane holder good
  have charged : Intake.Charged s v (List.finRange 32) i (intake s v) :=
    Intake.foldl_charged s v (List.finRange 32) (List.nodup_finRange 32) i
  simp only [State.swept] at run
  generalize intake s v = j at run claimed charged
  refine ⟨_, fun k => j.marks.noticed.getLsbD k.val, cadence, _, run, fun k => ?_, fun k => ?_, fun k => ?_, ?_,
    ⟨j.anchorGone, charged.gone, claimed⟩, j, charged.taken, congrArg Option.toList (surveyReport_congr v j rfl rfl).symm⟩
  · exact (charged.table k).trans (if_pos (List.mem_finRange k))
  · have entered := charged.entered k
    simp only [List.mem_finRange, true_and] at entered
    rw [BitVec.getLsbD_or, Bool.or_eq_true, entered]
  · simpa only [List.mem_finRange, true_and] using charged.noticed k
  · rw [charged.dropped]
    rfl

end Sys2Proof.Machine

/-! A survey of one reading, written out (R36 to R38, R61 to R75), and SURVEY as a whole. -/

namespace Sys2Proof.Machine

open Sys2Proof

namespace Intake

variable {s : State} {v : Survey} {i : Intake} {k : Slot} {r : Interferer} {o : Observation}

theorem due_of_taken {x : Slot × Observation} (mem : x ∈ i.taken) (here : x.1 = k) : due s v i k r = false := by
  have taken : i.isTaken k = true := List.any_eq_true.mpr ⟨x, mem, by simp [here]⟩
  simp [due, taken]

theorem due_of_uncovered (uncovered : covered s.tracker v r = false) : due s v i k r = false := by
  simp [due, uncovered]

theorem due_of_pinned (pinned : r.life = .pinned) : due s v i k r = false := by
  simp [due, pinned]

/-- The intake that has put a record into one slot. -/
def placed (s : State) (k : Slot) (q : Interferer) (marks : Marks) (o : Observation) : Intake :=
  ⟨s.table.set k (some q), marks, [(k, o)], 0, false⟩

theorem create_start (s : State) (o : Observation) (k : Slot) :
    (start s).create s o k = placed s k (o.record s.tracker) (.both k) o :=
  congrArg (fun marks => Intake.mk (s.table.set k (some (o.record s.tracker))) marks [(k, o)] 0 false) (Marks.none_join _)

/-- Nothing is charged once the only slot that the survey covers is taken. -/
theorem placed_idle {q : Interferer} {marks : Marks} (uncovered : ∀ (j : Slot) (p : Interferer), j ≠ k → s.table[j] = some p →
    covered s.tracker v p = false) (j : Slot) (p : Interferer) (slot : (placed s k q marks o).table[j] = some p) :
    due s v (placed s k q marks o) j p = false := by
  by_cases here : j = k
  · exact due_of_taken (List.mem_singleton_self _) here.symm
  · have held : s.table[j] = some p := by
      rw [placed, slot_set, if_neg here] at slot
      exact slot
    exact due_of_uncovered (uncovered j p here held)

end Intake

section

variable {s : State} {l : Lane} {m : Held} {v : Survey} {k : Slot} {q : Interferer} {marks : Marks} {o : Observation}
  (running : s.resetN = true) (settled : s.resets = []) (lane : s.surveyLane = some l)
  (holder : (s.links.get l).holder = some m) (good : s.surveyOf? l m.body = some v)

include running settled lane holder good

/-- A survey whose intake puts a record into one slot. -/
theorem exec_survey_of_placed (intake_eq : intake s v = Intake.placed s k q marks o) {report : Option Handed}
    (reports : surveyReport { s with table := s.table.set k (some q) } v (Intake.placed s k q marks o) = report) :
    exec .survey s = .next { s.swept l v with
      table := s.table.set k (some q), changed := s.changed ||| marks.entered
      handed := s.handed ++ marks.notices ++ report.toList } := by
  have run := exec_survey_of_kept running settled lane holder good intake_eq rfl
  rw [run, ← reports]
  simp only [Intake.placed, List.replicate_zero, List.append_nil]

theorem exec_survey_of_created (intake_eq : intake s v = Intake.placed s k q (.both k) o) {report : Option Handed}
    (reports : surveyReport { s with table := s.table.set k (some q) } v (Intake.placed s k q (.both k) o) = report) :
    exec .survey s = .next { s.swept l v with
      table := s.table.set k (some q), changed := s.changed ||| 1#32 <<< k.val
      handed := s.handed ++ .changeNotice k :: report.toList } := by
  rw [exec_survey_of_placed running settled lane holder good intake_eq reports, Marks.notices_both, List.append_assoc]
  rfl

/-- A survey that leaves the table as it is. -/
theorem exec_survey_of_untouched {dropped : Nat} (intake_eq : intake s v = ⟨s.table, .none, [], dropped, false⟩) {report : Option Handed}
    (reports : surveyReport s v ⟨s.table, .none, [], dropped, false⟩ = report) :
    exec .survey s = .next { s.swept l v with
      handed := s.handed ++ List.replicate dropped (.attentionSetRequest .tableFull) ++ report.toList } := by
  have run := exec_survey_of_kept running settled lane holder good intake_eq rfl
  have unchanged : s.changed ||| Marks.none.entered = s.changed := BitVec.or_zero
  rw [run, unchanged, Marks.notices_none, List.append_nil, ← reports]
  simp only [State.swept]

end

/-! ## The one observation -/

theorem record_of_quiet (p : Params) (v : Survey) {x : Reading} (quiet : x.burst = none) (t : Tracker) :
    (observe p v [x]).record t = {
      emission := if p.steadyFloor ≤ x.busy then .steady x.busy else .sporadic x.busy
      span := ⟨x.slice, 1⟩, level := x.level, confidence := 1, misses := 0, life := .tentative, origin := .learned } := by
  rw [observe_single, quiet]
  by_cases steady : p.steadyFloor ≤ x.busy <;> simp [Observation.record, guessKind, steady]

theorem guess_of_quiet (p : Params) (v : Survey) {x : Reading} (quiet : x.burst = none) :
    (observe p v [x]).guess ≠ .cadenced := by
  rw [observe_single, quiet]
  by_cases steady : p.steadyFloor ≤ x.busy <;> simp [guessKind, steady]

/-- A burst of a long dwell in band L is an observation of a CADENCED kind. -/
theorem observe_of_burst (p : Params) {v : Survey} {x : Reading} {rise fall : Nat} (burst : x.burst = some (rise, fall))
    (low : v.band = .l) (long : 15000 ≤ v.length) : observe p v [x] = {
      span := ⟨x.slice, 1⟩, level := x.level, busy := x.busy, burst := some (after v.start rise, fall - rise)
      guess := .cadenced } := by
  rw [observe_single, burst]
  simp [guessKind, low, long]

theorem burst_of_burst (p : Params) {v : Survey} {x : Reading} {rise fall : Nat} (burst : x.burst = some (rise, fall)) :
    (observe p v [x]).burst = some (after v.start rise, fall - rise) := by
  rw [observe_single, burst]
  rfl

theorem guess_of_burst (p : Params) {v : Survey} {x : Reading} {rise fall : Nat} (burst : x.burst = some (rise, fall))
    (low : v.band = .l) (long : 15000 ≤ v.length) : (observe p v [x]).guess = .cadenced := by
  rw [observe_of_burst p burst low long]

/-- The record of a burst while the tracker is not predicting. -/
theorem record_of_burst (p : Params) {v : Survey} {x : Reading} {rise fall : Nat} (burst : x.burst = some (rise, fall))
    (low : v.band = .l) (long : 15000 ≤ v.length) {t : Tracker} (wide : 1000 ≤ t.period) (off : t.predicting = false) :
    (observe p v [x]).record t = {
      emission := .cadenced (min (max (fall - rise) 500) (t.period - 500)) none
      span := ⟨x.slice, 1⟩, level := x.level, confidence := 1, misses := 0, life := .tentative, origin := .learned } := by
  have emission := record_emission_cadenced (guess_of_burst p burst low long) (burst_of_burst p burst) wide
  rw [Observation.phase_of_not_predicting off] at emission
  rw [← emission, observe_single]
  rfl

/-! ## The table of one reading -/

section

variable {s : State} {v : Survey} {x : Reading} (single : v.readings = [x]) (hot : s.params.detectLevel ≤ x.level)

include single hot

/-- The intake of a hot reading over an empty table. -/
theorem intake_of_empty (empty : ∀ k : Slot, s.table[k] = none) :
    intake s v = Intake.placed s 0 ((observe s.params v [x]).record s.tracker) (.both 0) (observe s.params v [x]) := by
  refine intake_of_hot single hot ?_ (Intake.placed_idle fun j p _ held => nomatch (empty j).symm.trans held)
  have unmatched := (Intake.choose_cases s (Intake.start s) (observe s.params v [x])).1
    fun k n ⟨r, held, _⟩ => nomatch (empty k).symm.trans held
  have first := (Intake.start s).empty_cases.2 0 (empty 0) (fun j less => absurd less (Nat.not_lt_zero _))
  rw [Intake.take_of_empty unmatched first, Intake.create_start]

end

/-- No record is a candidate when none lies over the reading. -/
theorem choose_of_apart {s : State} (ok : s.TableOk) (v : Survey) {x : Reading}
    (apart : ∀ (k : Slot) (r : Interferer), s.table[k] = some r → r.span.overlaps ⟨x.slice, 1⟩ = false) :
    (Intake.start s).choose s (observe s.params v [x]) = none := by
  refine (Intake.choose_cases s (Intake.start s) (observe s.params v [x])).1 ?_
  rintro k n ⟨r, held, -, rfl, half, -⟩
  have none := apart k r held
  have filled := (ok k r held).span
  rw [observe_single] at half
  simp only [Span.overlaps, decide_eq_false_iff_not] at none
  simp only [Span.isInterfererSpan, Span.valid, Bool.and_eq_true, decide_eq_true_eq] at filled
  obtain ⟨⟨one, -⟩, -⟩ := filled
  dsimp only at half
  omega

theorem uncovered_of_apart {v : Survey} {x : Reading} (single : v.readings = [x]) {t : Tracker} {r : Interferer}
    (apart : r.span.overlaps ⟨x.slice, 1⟩ = false) : covered t v r = false := by
  cases covers : covered t v r with
  | false => rfl
  | true => exact nomatch apart.symm.trans (Span.overlaps_single.mpr (covered_slice single covers))

/-- Without a rise or a miss of the anchor, and without a CADENCED observation, there is nothing to report. -/
theorem surveyReport_of_quiet {s : State} {v : Survey} {i : Intake}
    (untaken : ∀ y ∈ i.taken, s.tracker.anchor ≠ some y.1 ∧ y.2.guess ≠ .cadenced)
    (uncovered : ∀ (k : Slot) (r : Interferer), s.tracker.anchor = some k → s.table[k] = some r →
      covered s.tracker v r = false) : surveyReport s v i = none := by
  cases anchor : s.tracker.anchor with
  | none =>
    exact surveyReport_of_nothing anchor (List.find?_eq_none.mpr fun y mem => by simpa using (untaken y mem).2)
  | some k =>
    have nowhere : i.taken.find? (fun y => y.1 == k) = none := by
      refine List.find?_eq_none.mpr fun y mem here => (untaken y mem).1 ?_
      rw [anchor, eq_of_beq here]
    cases slot : s.table[k] with
    | none =>
      rw [surveyReport, anchor]
      dsimp only
      rw [nowhere]
      dsimp only
      rw [slot]
    | some r => rw [surveyReport_of_untaken anchor nowhere slot, uncovered k r anchor slot, if_neg nofun]

/-! ## A full table (R37, R38) -/

section

variable {s : State} {v : Survey} {x : Reading} (single : v.readings = [x]) (hot : s.params.detectLevel ≤ x.level)
  (ok : s.TableOk) (full : ∀ k : Slot, s.table[k] ≠ none)
  (apart : ∀ (k : Slot) (r : Interferer), s.table[k] = some r → r.span.overlaps ⟨x.slice, 1⟩ = false)

include single hot ok full apart

theorem intake_of_full (kept : ∀ (k : Slot) (r : Interferer), s.table[k] = some r → r.life ≠ .tentative) :
    intake s v = ⟨s.table, .none, [], 1, false⟩ := by
  refine intake_of_hot single hot ?_ fun k r held => Intake.due_of_uncovered (uncovered_of_apart single (apart k r held))
  have noEvictee := (Intake.start s).evictee_cases.1 fun k => Option.eq_none_iff_forall_ne_some.mpr fun r found =>
    kept k r (Intake.evictable?_iff.mp found).1 (Intake.evictable?_iff.mp found).2.1
  exact Intake.take_of_full (choose_of_apart ok v apart) ((Intake.start s).empty_cases.1 full) noEvictee

theorem intake_of_evictee {k : Slot} {r : Interferer} (slot : s.table[k] = some r) (tentative : r.life = .tentative)
    (anchor : s.tracker.anchor ≠ some k) (worst : ∀ (j : Slot) (q : Interferer), j ≠ k → s.table[j] = some q →
      q.life = .tentative → r.confidence < q.confidence ∨ (r.confidence = q.confidence ∧
        (q.misses < r.misses ∨ (q.misses = r.misses ∧ k < j)))) :
    intake s v = Intake.placed s k ((observe s.params v [x]).record s.tracker) (.both k) (observe s.params v [x]) := by
  refine intake_of_hot single hot ?_ (Intake.placed_idle fun j p _ held => uncovered_of_apart single (apart j p held))
  have out : (Intake.start s).evictee = some k := by
    refine (Intake.start s).evictee_cases.2 k r (Intake.evictable?_iff.mpr ⟨slot, tentative, nofun⟩) fun j q found => ?_
    obtain ⟨held, life, -⟩ := Intake.evictable?_iff.mp found
    by_cases here : j = k
    · subst here
      obtain rfl : r = q := Option.some.inj (slot.symm.trans held)
      exact .inr ⟨rfl, .inr ⟨rfl, le_refl _⟩⟩
    · exact (worst j q here held life).imp_right (And.imp_right (Or.imp_right (And.imp_right le_of_lt)))
  rw [Intake.take_of_evictee (choose_of_apart ok v apart) ((Intake.start s).empty_cases.1 full) out, Intake.create_start,
    decide_eq_false anchor]
  rfl

end

/-! ## The anchor's record alone in the table (R67, R68, R72 to R75) -/

section

variable {s : State} {v : Survey} {x : Reading} {k : Slot} {r : Interferer} {on : Nat} {φ : Option Nat}
  (single : v.readings = [x]) (slot : s.table[k] = some r) (alone : ∀ j : Slot, j ≠ k → s.table[j] = none)
  (emission : r.emission = .cadenced on φ)

include single slot alone

theorem intake_of_pinned (cold : ¬s.params.detectLevel ≤ x.level) (pinned : r.life = .pinned) :
    intake s v = ⟨s.table, .none, [], 0, false⟩ := by
  refine intake_of_cold single cold fun j p held => Intake.due_of_pinned ?_
  by_cases same : j = k
  · subst same
    obtain rfl : r = p := Option.some.inj (slot.symm.trans held)
    exact pinned
  · exact nomatch (alone j same).symm.trans held

include emission

theorem intake_of_match (hot : s.params.detectLevel ≤ x.level) {rise fall : Nat} (burst : x.burst = some (rise, fall))
    (low : v.band = .l) (long : 15000 ≤ v.length) (valid : v.valid = true) (band : r.span.band = .l)
    (first : r.span.first ≤ x.slice) (last : x.slice < r.span.first + r.span.count)
    (near : ∀ (f : Nat) (reference : AirTime), φ = some f → s.tracker.predicting = true →
      s.tracker.reference = some reference →
      let step := shortestStep s.tracker.period f
        (onCircle s.tracker.period (signedDiff reference (after v.start rise)))
      step ≤ s.params.matchTol ∧ -(s.params.matchTol : Int) ≤ step) :
    intake s v = Intake.placed s k (r.matched s.params s.tracker (observe s.params v [x]))
      (changeMarks k r (r.matched s.params s.tracker (observe s.params v [x]))) (observe s.params v [x]) := by
  refine intake_of_hot single hot ?_ (Intake.placed_idle fun j p other held => nomatch (alone j other).symm.trans held)
  have here : (Intake.start s).IsCandidate s.params s.tracker (observe s.params v [x]) k 1 := by
    rw [observe_of_burst s.params burst low long]
    have slice := (v.reading_ok valid (single ▸ List.mem_singleton_self x)).2.1
    have cadenced : r.isCadenced = true := Interferer.isCadenced_iff.mpr ⟨on, φ, emission⟩
    have phase : r.phase = φ := by rw [Interferer.phase_eq, emission]; rfl
    refine ⟨r, slot, band.trans (low.symm.trans slice.symm), (Span.overlap_single first last).symm, ?_,
      iff_of_true rfl cadenced, nofun, ?_⟩
    · exact (Nat.min_le_right _ _).trans (Nat.le_succ 1)
    · intro f length reference begin state known phased begun
      cases begun
      have step : shortestStep s.tracker.period (f % s.tracker.period : Nat)
          (onCircle s.tracker.period (signedDiff reference (after v.start rise))) =
          shortestStep s.tracker.period f (onCircle s.tracker.period (signedDiff reference (after v.start rise))) := by
        simp [shortestStep]
      rw [step]
      exact near f reference (phase.symm.trans phased) (s.tracker.predicting_iff.mpr state) known
  have chosen := (Intake.choose_cases s (Intake.start s) (observe s.params v [x])).2 k 1 here fun j n found => by
    have candidate := found
    obtain ⟨q, held, -⟩ := candidate
    by_cases same : j = k
    · subst same
      have one := ((Intake.start s).candidate_iff s _ j 1).mpr here
      have other := ((Intake.start s).candidate_iff s _ j n).mpr found
      exact .inr ⟨Option.some.inj (other.symm.trans one), le_refl _⟩
    · exact nomatch (alone j same).symm.trans held
  rw [Intake.take_of_chosen chosen slot]
  exact congrArg (fun marks => Intake.mk _ marks _ 0 false) (Marks.none_join _)

end

/-- A record without a phase is covered by the reading of one of its slices. -/
theorem covered_of_unphased {v : Survey} {x : Reading} (single : v.readings = [x]) {r : Interferer} {on : Nat}
    (emission : r.emission = .cadenced on none) (t : Tracker) (first : r.span.first ≤ x.slice)
    (last : x.slice < r.span.first + r.span.count) : covered t v r = true := by
  have bare : r.onArc 0 = none := by simp [Interferer.onArc, emission]
  simp only [covered, single, bare, List.any_cons, first, last]
  cases t.prediction <;> rfl

end Sys2Proof.Machine

/-! SURVEY as a whole: the four parts of O49 together. -/

namespace Sys2Proof.Machine

open Sys2Proof

theorem Marks.mem_notices {m : Marks} {h : Handed} (mem : h ∈ m.notices) :
    ∃ k : Slot, h = .changeNotice k ∧ m.noticed.getLsbD k.val = true := by
  obtain ⟨k, found, rfl⟩ := List.mem_map.mp mem
  exact ⟨k, rfl, (List.mem_filter.mp found).2⟩

/-- Settles O49: the claim of the intake with its miss account, then the one observation of one reading case by case. -/
theorem surveyUpdatesCoverageAndTable : Obligations.SurveyUpdatesCoverageAndTable := by
  unfold Obligations.SurveyUpdatesCoverageAndTable
  refine ⟨fun s l m running settled lane holder => ⟨exec_survey_of_bad running settled lane holder,
      fun v good => survey_updates running settled lane holder good⟩,
    fun p v valid => ⟨v.parts p, v.parts_parts p valid, observations_describe p v⟩,
    fun s l m v running settled tracker lane holder good => ?_,
    fun s l m v x running settled lane holder good single => ?_⟩
  · intro i charged fades gone
    have due_iff : ∀ k r, Intake.due s v i k r = true ↔ charged k r := fun k r => Intake.due_iff tracker
    have fades_iff : ∀ k, Intake.Fades s v i k ↔ fades k := fun k =>
      exists_congr fun r => and_congr_right fun _ => and_congr_left fun _ => due_iff k r
    have removed_iff : ∀ k, Intake.Removed s v i k ↔ ∃ r, i.table[k] = some r ∧ charged k r ∧ r.missed s.params = none :=
      fun k => exists_congr fun r => and_congr_right fun _ => and_congr_left fun _ => due_iff k r
    obtain ⟨t, noticed, cadence, report, run, table, changed, notices, handed, ⟨b, b_iff, claimed⟩, j, taken, reports⟩ :=
      survey_accounts running settled lane holder good
    have gone_iff : b = true ↔ gone := by
      refine b_iff.trans (or_congr_right ⟨fun ⟨k, _, anchor, removed⟩ => ?_, fun ⟨k, r, anchor, rest⟩ =>
        ⟨k, List.mem_finRange k, anchor, (removed_iff k).mpr ⟨r, rest⟩⟩⟩)
      obtain ⟨r, rest⟩ := (removed_iff k).mp removed
      exact ⟨k, r, anchor, rest⟩
    have kept : ¬gone → b = false := fun h => Bool.eq_false_of_not_eq_true (mt gone_iff.mp h)
    refine ⟨t, noticed, cadence, report, run, fun k free => ?_, fun k r slot => ⟨fun h => ?_, fun h => ?_⟩,
      fun k => (changed k).trans (or_congr_right (or_congr_right (fades_iff k))),
      fun k => (notices k).trans (or_congr_right (fades_iff k)),
      handed, fun h => claimed.kept (kept h), fun k q h => claimed.moved (gone_iff.mpr h) k q,
      fun h => claimed.freed (gone_iff.mpr h), fun pre post k o start length split burst => ⟨fun anchor first => ?_,
        fun anchor guess first => ?_⟩, fun anchor quiet => ?_, fun k r anchor untaken slot => ?_⟩
    · exact (table k).trans (Intake.account_of_empty free)
    · exact (table k).trans (Intake.account_of_due slot ((due_iff k r).mpr h))
    · exact (table k).trans (Intake.account_of_other slot (Bool.eq_false_of_not_eq_true (mt (due_iff k r).mp h)))
    · rw [reports, surveyReport_of_anchor_first anchor (taken.trans split) burst first]
      rfl
    · rw [reports, surveyReport_of_cadenced_first anchor (taken.trans split) burst guess first]
      rfl
    · have nothing : j.taken.find? (fun x => x.2.guess == .cadenced) = none :=
        List.find?_eq_none.mpr fun y mem => by simpa using quiet y (taken ▸ mem)
      rw [reports, surveyReport_of_nothing anchor nothing]
      rfl
    · have nowhere : j.taken.find? (fun x => x.1 == k) = none :=
        List.find?_eq_none.mpr fun y mem => by simpa using untaken y (taken ▸ mem)
      have covers : covered t.tracker v r = true ↔ v.Covers s.tracker r := by
        rw [covered_congr v r (claimed.predicts (by rw [anchor]; nofun)), covered_iff_Covers tracker]
      rw [reports, surveyReport_of_untaken anchor nowhere slot]
      refine ⟨fun h => ?_, fun h => ?_⟩
      · rw [if_pos (covers.mpr h)]
        rfl
      · rw [if_neg (mt covers.mp h)]
        rfl
  · intro swept hot learned quiet worse
    have valid : v.valid = true := s.surveyOf?_valid good
    refine ⟨fun warm still empty anchor => ?_, fun warm still ok full apart => ⟨fun kept => ?_,
      fun k r slot tentative other worst => ?_⟩, fun rise fall burst low long => ?_⟩
    · have made := exec_survey_of_created running settled lane holder good (intake_of_empty single warm empty)
        (surveyReport_of_quiet (by simp [Intake.placed, anchor, guess_of_quiet s.params v still]) fun k r here =>
          nomatch here.symm.trans anchor)
      rw [record_of_quiet s.params v still] at made
      exact made
    · have dropped := exec_survey_of_untouched running settled lane holder good
        (intake_of_full single warm ok full apart kept)
        (surveyReport_of_quiet (by simp) fun k r _ slot => uncovered_of_apart single (apart k r slot))
      rw [dropped, Option.toList_none, List.append_nil]
      rfl
    · have made := exec_survey_of_created running settled lane holder good
        (intake_of_evictee single warm ok full apart slot tentative other worst)
        (surveyReport_of_quiet (by simp [Intake.placed, other, guess_of_quiet s.params v still]) fun j q here held => by
          have apart_k : j ≠ k := by
            rintro rfl
            exact other here
          rw [slot_set, if_neg apart_k] at held
          exact uncovered_of_apart single (apart j q held))
      rw [record_of_quiet s.params v still] at made
      exact made
    · intro start
      refine ⟨fun warm empty anchor free => ?_, fun k r on φ anchor slot alone emission first last band =>
        ⟨fun warm near => ?_, fun cold pinned unphased => ?_⟩⟩
      · intro on wide
        have made := exec_survey_of_created running settled lane holder good (intake_of_empty single warm empty)
          (surveyReport_of_cadenced_first (pre := []) (post := []) anchor rfl (burst_of_burst s.params burst)
            (guess_of_burst s.params burst low long) nofun)
        rw [record_of_burst s.params burst low long wide (Tracker.not_predicting (.inl free))] at made
        exact made
      · have matched := exec_survey_of_placed running settled lane holder good
          (intake_of_match single slot alone emission warm burst low long valid band first last near)
          (surveyReport_of_anchor_first (pre := []) (post := []) anchor rfl (burst_of_burst s.params burst) nofun)
        simp only [observe_of_burst s.params burst low long, State.swept] at matched
        refine ⟨_, _, matched, fun n mem => ?_, (slot_set ..).trans (if_pos rfl), rfl, rfl⟩
        obtain ⟨j, rfl, bit⟩ := Marks.mem_notices mem
        rw [(changeMarks_noticed.mp bit).1]
      · subst unphased
        have reports := surveyReport_of_untaken (v := v) (i := ⟨s.table, .none, [], 0, false⟩) anchor rfl slot
        rw [if_pos (covered_of_unphased single emission s.tracker first last)] at reports
        have missed := exec_survey_of_untouched running settled lane holder good
          (intake_of_pinned single slot alone cold pinned) reports
        rw [missed, List.replicate_zero, List.append_nil]
        rfl

end Sys2Proof.Machine
